-- ==== Sys2Proof/Word.lean ====
section
/-!
DEFINITION. The words of the WC8 that the manual treats as bits: bytes of the link, sample codes, and the sets that
travel as bit masks. Counts, ticks and identifiers are natural numbers and are not given here.
-/

namespace Sys2Proof

/-- One byte of a link frame, a staging buffer or the record store. -/
abbrev Byte := BitVec 8

/-- A sample code, a signed 16-bit number (R127); the word is its two's complement form. -/
abbrev SampleCode := BitVec 16

/-- A set of channels: bit n is CHn (Chapter 10, outbound channel set). -/
abbrev ChannelSet := BitVec 8

/-- A set of trigger sources: bits 0..3 EXT0..EXT3, bits 4..11 LVL0..LVL7, bit 12 SOFT (Chapter 10, source set). -/
abbrev SourceSet := BitVec 13

/-- A set of plans: bit n is Pn (Chapter 10, plan mask). -/
abbrev PlanSet := BitVec 8

end Sys2Proof
end

