-- ==== Sys2Proof/Config.lean ====
section
/-!
DEFINITION. What the manual fixes for every WC8 (capacities and limits), and the two values it leaves open.
-/

namespace Sys2Proof.Config

/-- Blocks of the Block Pool (R1). -/
def blockCount : Nat := 1024
/-- Sample words of one block (R3). -/
def blockWords : Nat := 256
/-- Record slots of the Record Table (R8). -/
def recordSlots : Nat := 32
/-- The largest record ID (R11). -/
def maxRecordId : Nat := 65535
/-- Places of the Pending Job Queue (R59). -/
def jobPlaces : Nat := 8
/-- Window slots of CAP (R65). -/
def windowSlots : Nat := 4
/-- Ticks a history ring holds (R128). -/
def historyDepth : Nat := 16384
/-- The last tick a run can sample, 2^48 - 1 (R126). -/
def lastTick : Nat := 281474976710655
/-- Ticks of one observation span (R138). -/
def spanTicks : Nat := 256
/-- Entries of a range change log (R141). -/
def logEntries : Nat := 8
/-- Counted spans after which a ONCE pass gives up (R145). -/
def passLimit : Nat := 8
/-- Places of the intake queue (R160). -/
def intakePlaces : Nat := 4
/-- Entries of the response queue that immediate responses may use (R160). -/
def unreservedPlaces : Nat := 4
/-- Places of the report queue (R164). -/
def reportPlaces : Nat := 16
/-- The largest payload of a frame, in bytes (R155). -/
def largestPayload : Nat := 1024
/-- Milliseconds without a byte that a frame under UART may last (R156, cause GAP). -/
def gapLimit : Nat := 5
/-- The highest value of a 16-bit saturating counter (R35, R100, R168). -/
def counterMax : Nat := 65535
/-- The highest value of the offer count (R57). -/
def offerCountMax : Nat := 4294967295

/-- FREE VALUE. The six bytes that STATUS holds for a window's last tick or copy position when that number lies
beyond 2^48 - 1, the largest a 6-byte tick field can hold (R78 and section 10.4.7 give no value; assumption 2).
It has no body: nothing can be proved of the value. -/
opaque tickBeyondField : Nat → BitVec 48

/-- FREE VALUE. Whether the Sampler rounds an input up: for a channel, a tick, a range and an input voltage that lies within the full scale
and between two code steps, whether the code is that of the step above or of the step below (R127 states the code step, not the
rounding; assumption 23). It has no body: nothing can be proved of the value. -/
opaque roundsUp (channel : Fin 8) (tick range : Nat) (input : Int) : Bool

end Sys2Proof.Config
end

