-- ==== Sys2Proof/Syntax.lean ====
section
/-!
DEFINITION. The steps of the WC8, one constructor for each row of spec/opcode_table.json, and the host commands that a
COMMAND frame can carry. The WC8 is a block: a "step" here is an event at the part (a pin, a byte, a tick, a timer, a
command of the host) that the world sends, in the order in which the world takes the events.
-/

namespace Sys2Proof

/-- The levels that the part reads from its pins at the end of a device reset (R58, R152). Which level of LINKSEL selects
which transport the manual does not say: the field names the selection. -/
structure ResetPins where
  /-- LINKSEL stands at the level that selects SPI. -/
  spi : Bool
  /-- BAUD1 is high. -/
  baud1 : Bool
  /-- BAUD0 is high. -/
  baud0 : Bool
  /-- The levels of EXT0 to EXT3, true for high. -/
  ext : Vector Bool 4
  deriving DecidableEq, Repr

/-- A byte that reaches the part (R152, R153, R155), with the pins as they stand then. The pins matter only where the exchange of the byte
completes the frame of a RESET FULL's OK under SPI (R153, R169). -/
structure ByteArrival where
  /-- The byte on RXD, or exchanged on SDI. -/
  value : Byte
  pins : ResetPins
  deriving DecidableEq, Repr

/-- Why the step FRAME_DISCARD discards an inbound frame (R156). -/
inductive FrameFault where
  /-- A length below 2 or above 1,026, or an ACK frame of another length than 3 (cause LENGTH). -/
  | badLength
  /-- The CRC differs (cause CRC). -/
  | badCrc
  /-- A kind the part does not accept (cause KIND). -/
  | badKind
  deriving DecidableEq, Repr

/-- The 16-byte plan definition of PLAN_DEFINE as the host sends it, before any check (section 10.2). -/
structure PlanArgs where
  channels : BitVec 16
  decimation : Byte
  pre : BitVec 16
  post : BitVec 16
  sources : BitVec 16
  runMode : Byte
  count : Byte
  policy : Byte
  holdoff : BitVec 16
  lane : Byte
  retain : Byte
  deriving DecidableEq, Repr

/-- A host command with its arguments as the payload gives them, before its owner's checks (section 10.2). -/
inductive Command where
  | inquire
  | status
  | reset (mode : Byte)
  | samplingSet (rate : Byte) (channels : BitVec 16)
  | samplingStart
  | samplingStop
  | rangeSet (channel range : Byte)
  | rangeMode (channel mode : Byte)
  | channelGet (channel : Byte)
  | extlineSet (line enabled edge : Byte)
  | detectorSet (channel enabled : Byte) (threshold hysteresis : BitVec 16) (direction : Byte)
  | trigger (mask : Byte)
  | planDefine (plan : Byte) (definition : PlanArgs)
  | planClear (plan : Byte)
  | planStart (plan : Byte)
  | planStop (plan mode : Byte)
  | planGet (plan : Byte)
  | recordList
  | recordDiscard (id : BitVec 16)
  | recordRelease (id : BitVec 16)
  | recordReplay (id : BitVec 16)
  | laneSet (lane k : Byte) (ackTimeout backoff : BitVec 16) (retryLimit : Byte)
  | laneClearHalt (lane : Byte)
  | laneGet (lane : Byte)
  deriving DecidableEq, Repr

/-- The steps of the part, one constructor per row of spec/opcode_table.json, in the table's order. A row that names a host
command stands for the arrival of a good COMMAND frame that carries that command with the given tag. -/
inductive Instr where
  /-- POWER_ON (R171): power is applied; the pins as they stand at the end of the reset. -/
  | powerOn (pins : ResetPins)
  /-- RESET_PIN (R171): RESET# is held low and released; the pins as they stand at its end. -/
  | resetPin (pins : ResetPins)
  /-- EXT_EDGE (R42): the level of an external line becomes `level`. -/
  | extEdge (line : Fin 4) (level : Bool)
  /-- TICK_EVENT (R125, R127): the voltages on AIN0 to AIN7 at this tick, each as a whole number of units of 10.24 V / 2^30 (assumption 23);
  those of channels not enabled are not taken. -/
  | tickEvent (inputs : Vector Int 8)
  /-- SPAN_END (R139): RNG takes the code that is on its way to it. -/
  | spanEnd (channel : Fin 8)
  /-- TICK_LIMIT_STOP (R132). -/
  | tickLimitStop
  /-- OFFER (R54): CAP takes the oldest offer that TRG has formed and CAP has not taken. -/
  | offer
  /-- JOB_EXPIRY (R63). -/
  | jobExpiry
  /-- COPY_END (R70) of the window in a slot. -/
  | copyEnd (slot : Fin 4)
  /-- WINDOW_SEAL (R73) of the ENDED window in a slot. -/
  | windowSeal (slot : Fin 4)
  /-- STAGING_END (R89) in a buffer of a lane. -/
  | stagingEnd (lane buffer : Fin 2)
  /-- FRAME_START (R165). -/
  | frameStart
  /-- FRAME_COMPLETE (R166); the pins, as they stand then, matter only where a RESET FULL takes effect here (R169). -/
  | frameComplete (pins : ResetPins)
  /-- ACK (R103): the three payload bytes of a good ACK frame (R175). -/
  | ack (lane seq verdict : Byte)
  /-- ACK_TIMER_EXPIRY (R111). -/
  | ackTimerExpiry (lane : Fin 2)
  /-- BACKOFF_TIMER_EXPIRY (R112). -/
  | backoffTimerExpiry (lane : Fin 2)
  /-- COMMAND_FRAME (R159): a good COMMAND frame. -/
  | commandFrame (tag : Byte) (payload : List Byte)
  /-- FRAME_DISCARD (R156): a frame is discarded; its tag if the parser had taken it. -/
  | frameDiscard (fault : FrameFault) (tag : Option Byte)
  /-- GAP_EXPIRY (R157). -/
  | gapExpiry
  /-- CS_RISE (R153). -/
  | csRise
  /-- UNKNOWN_COMMAND (R173): a COMMAND frame whose payload is empty or begins with a code not in the command table. -/
  | unknownCommand (tag : Byte) (payload : List Byte)
  /-- INQUIRE (R167). -/
  | inquire (tag : Byte)
  /-- STATUS (R168). -/
  | status (tag : Byte)
  /-- RESET_FULL (R169). -/
  | resetFull (tag : Byte)
  /-- RESET_FLUSH (R170). -/
  | resetFlush (tag : Byte)
  /-- SAMPLING_SET (R124). -/
  | samplingSet (tag rate : Byte) (channels : BitVec 16)
  /-- SAMPLING_START (R130). -/
  | samplingStart (tag : Byte)
  /-- SAMPLING_STOP (R131). -/
  | samplingStop (tag : Byte)
  /-- RANGE_SET (R147). -/
  | rangeSet (tag channel range : Byte)
  /-- RANGE_MODE (R148). -/
  | rangeMode (tag channel mode : Byte)
  /-- CHANNEL_GET (R149). -/
  | channelGet (tag channel : Byte)
  /-- EXTLINE_SET (R44). -/
  | extlineSet (tag line enabled edge : Byte)
  /-- DETECTOR_SET (R49). -/
  | detectorSet (tag channel enabled : Byte) (threshold hysteresis : BitVec 16) (direction : Byte)
  /-- TRIGGER (R50). -/
  | trigger (tag mask : Byte)
  /-- PLAN_DEFINE (R24). -/
  | planDefine (tag plan : Byte) (definition : PlanArgs)
  /-- PLAN_CLEAR (R33). -/
  | planClear (tag plan : Byte)
  /-- PLAN_START (R27). -/
  | planStart (tag plan : Byte)
  /-- PLAN_STOP_GRACEFUL (R29). -/
  | planStopGraceful (tag plan : Byte)
  /-- PLAN_STOP_ABORT (R31). -/
  | planStopAbort (tag plan : Byte)
  /-- PLAN_GET (R34). -/
  | planGet (tag plan : Byte)
  /-- RECORD_LIST (R14). -/
  | recordList (tag : Byte)
  /-- RECORD_DISCARD (R15). -/
  | recordDiscard (tag : Byte) (id : BitVec 16)
  /-- RECORD_RELEASE (R17). -/
  | recordRelease (tag : Byte) (id : BitVec 16)
  /-- RECORD_REPLAY (R18). -/
  | recordReplay (tag : Byte) (id : BitVec 16)
  /-- LANE_SET (R98). -/
  | laneSet (tag lane k : Byte) (ackTimeout backoff : BitVec 16) (retryLimit : Byte)
  /-- LANE_CLEAR_HALT (R116). -/
  | laneClearHalt (tag lane : Byte)
  /-- LANE_GET (R99). -/
  | laneGet (tag lane : Byte)
  /-- INBOUND_BYTE (R155): a byte from RXD, or exchanged on SDI, reaches the parser. -/
  | inboundByte (arrival : ByteArrival)
  /-- CATCH_UP_COPY_FRAME (R70) of the window in a slot. -/
  | catchUpCopyFrame (slot : Fin 4)
  deriving DecidableEq, Repr

end Sys2Proof
end

