-- ==== Sys2Proof/WellFormed.lean ====
section
/-!
DEFINITION. The checks a step's operands pass: what the world can send. Every other operand is bounded by its type.
-/

namespace Sys2Proof

/-- The twenty-four command codes of the command table (section 10.2). -/
def commandCodes : List Byte :=
  [0x01, 0x02, 0x03, 0x10, 0x11, 0x12, 0x18, 0x19, 0x1A, 0x20, 0x21, 0x22,
   0x30, 0x31, 0x32, 0x33, 0x34, 0x40, 0x41, 0x42, 0x43, 0x50, 0x51, 0x52]

/-- A frame's payload holds at most 1,024 bytes (R155). -/
def payloadFits (payload : List Byte) : Bool :=
  decide (payload.length ≤ Config.largestPayload)

/-- The payload has no code, or a code that is not in the command table (R173). -/
def hasUnknownCode : List Byte → Bool
  | [] => true
  | code :: _ => !commandCodes.contains code

/-- A frame discarded for its CRC or its kind has had its tag byte taken (R156). -/
def discardNamesTag : FrameFault → Option Byte → Bool
  | .badLength, _ => true
  | .badCrc, tag => tag.isSome
  | .badKind, tag => tag.isSome

/-- The checks on a step's operands. -/
def Instr.wellFormed : Instr → Bool
  | .commandFrame _ payload => payloadFits payload
  | .unknownCommand _ payload => payloadFits payload && hasUnknownCode payload
  | .frameDiscard fault tag => discardNamesTag fault tag
  | .powerOn _ => true
  | .resetPin _ => true
  | .extEdge _ _ => true
  | .tickEvent _ => true
  | .spanEnd _ => true
  | .tickLimitStop => true
  | .offer => true
  | .jobExpiry => true
  | .copyEnd _ => true
  | .windowSeal _ => true
  | .stagingEnd _ _ => true
  | .frameStart => true
  | .frameComplete _ => true
  | .ack _ _ _ => true
  | .ackTimerExpiry _ => true
  | .backoffTimerExpiry _ => true
  | .gapExpiry => true
  | .csRise => true
  | .inquire _ => true
  | .status _ => true
  | .resetFull _ => true
  | .resetFlush _ => true
  | .samplingSet _ _ _ => true
  | .samplingStart _ => true
  | .samplingStop _ => true
  | .rangeSet _ _ _ => true
  | .rangeMode _ _ _ => true
  | .channelGet _ _ => true
  | .extlineSet _ _ _ _ => true
  | .detectorSet _ _ _ _ _ _ => true
  | .trigger _ _ => true
  | .planDefine _ _ _ => true
  | .planClear _ _ => true
  | .planStart _ _ => true
  | .planStopGraceful _ _ => true
  | .planStopAbort _ _ => true
  | .planGet _ _ => true
  | .recordList _ => true
  | .recordDiscard _ _ => true
  | .recordRelease _ _ => true
  | .recordReplay _ _ => true
  | .laneSet _ _ _ _ _ _ => true
  | .laneClearHalt _ _ => true
  | .laneGet _ _ => true
  | .inboundByte _ => true
  | .catchUpCopyFrame _ => true

end Sys2Proof
end

