-- ==== Sys2Proof/Decode.lean ====
section
/-!
DEFINITION. The reading of a table word. The WC8 is a block: no row of spec/opcode_table.json gives bits ("fields" is
empty in every row and there is no "fixed"), so no word spells a step. The bytes of the host's frames are read by the
inbound parser (Machine/Link.lean) and the payload table of Machine/Operands.lean.
-/

namespace Sys2Proof

/-- The step that a table word of `nbits` bits spells: none, because the table gives no row any bits. -/
def decodeTableWord (_nbits _w : Nat) : Option Instr :=
  none

end Sys2Proof
end

