-- ==== Sys2Proof/Machine/Parts.lean ====
section
/-!
DEFINITION. What each functional block of the WC8 holds (section 3 of the scope chapter: SMP, HIS, RNG, TRG, CAP, REC,
DLV, LNK), as plain data.
-/

namespace Sys2Proof.Machine

/-- A memory of bytes in canonical form: addresses strictly rising, no entry whose byte is 0. An address that is not listed
reads as 0 (assumption 1). -/
abbrev Memory := List Host.Cell

/-! ### SMP: the Sampler (Chapter 7) -/

/-- The Sampler's own state (R121, R122, R123, R126). -/
structure Sampler where
  /-- RUNNING, else STOPPED (R121). -/
  running : Bool
  /-- The rate code, 0..7 (R122). -/
  rateCode : Nat
  /-- The enabled channel set (R123). -/
  enabled : ChannelSet
  /-- The number the next tick will carry, 0..2^48 - 1 (R126). -/
  tickCounter : Nat
  /-- The newest sampled tick, absent before the first tick event of a run (R126). -/
  newest : Option Nat
  deriving DecidableEq, Repr

/-! ### RNG: the Range Controller (Chapter 8) -/

/-- The three range modes (R137). -/
inductive RangeMode where
  | manual
  | track
  | once
  deriving DecidableEq, Repr

/-- One entry of a range change log (R141). -/
structure LogEntry where
  tick : Nat
  range : Nat
  deriving DecidableEq, Repr

/-- What RNG holds for one channel (R136 to R145). -/
structure Channel where
  /-- The range index, 0..7 or 0..3 (R136). -/
  range : Nat
  mode : RangeMode
  /-- The count of counted spans while a ONCE pass runs (R145). -/
  counted : Option Nat
  /-- Span position, 0..255 (R138). -/
  spanPos : Nat
  /-- Span peak, 0..32,768 (R138). -/
  spanPeak : Nat
  /-- Span clip mark (R138). -/
  spanClip : Bool
  /-- The code that would bring the span to 256 ticks, sampled and not yet taken by RNG (R125, R139: SPAN_END takes it). -/
  arriving : Option SampleCode
  /-- The range change log, oldest first, at most 8 entries (R141). -/
  log : List LogEntry
  baseRange : Nat
  baseTick : Nat
  /-- Lock count, 0..4 (R143). -/
  lockCount : Nat
  deriving DecidableEq, Repr

/-! ### TRG: the Trigger Unit (Chapter 3) -/

/-- Which edges of an external line are accepted (R42). -/
inductive EdgeSel where
  | rising
  | falling
  | both
  deriving DecidableEq, Repr

/-- An external line (R42). -/
structure ExtLine where
  enabled : Bool
  edge : EdgeSel
  /-- The level on the pin, true for high. -/
  level : Bool
  /-- The reference level: the level TRG last saw. -/
  reference : Bool
  /-- An accepted edge has been seen that has not yet fired the line. -/
  latch : Bool
  deriving DecidableEq, Repr

/-- Which crossings fire a level detector (R46). -/
inductive Direction where
  | rising
  | falling
  | either
  deriving DecidableEq, Repr

/-- The state of a level detector (R46). -/
inductive DetectorState where
  | unknown
  | below
  | above
  deriving DecidableEq, Repr

/-- A level detector (R46). -/
structure Detector where
  enabled : Bool
  threshold : SampleCode
  /-- Hysteresis, 0..4,095 codes. -/
  hysteresis : Nat
  direction : Direction
  state : DetectorState
  deriving DecidableEq, Repr

/-- A TRIGGER in execution (R50, R51): its plan mask, and the tick at which it has fired SOFT, if it has. -/
structure TriggerRun where
  mask : PlanSet
  firedAt : Option Nat
  deriving DecidableEq, Repr

/-- A trigger offer that TRG has formed and CAP has not taken yet (R53, R54). -/
structure Offer where
  tick : Nat
  sources : SourceSet
  /-- The SOFT mask, present when SOFT is in the source set. -/
  softMask : Option PlanSet
  /-- The plans started since the offer was formed, which never see it (R27, R54). -/
  unseenBy : PlanSet
  deriving DecidableEq, Repr

/-- TRG beside its lines and detectors (R50, R53, R57). -/
structure TriggerUnit where
  /-- The TRIGGER in execution, if any. -/
  run : Option TriggerRun
  /-- The offer count, saturating at 4,294,967,295 (R57). -/
  offerCount : Nat
  /-- The tick and source set of the most recent offer formed (R57). -/
  lastOffer : Option (Nat × SourceSet)
  /-- The offers formed and not yet taken by CAP, oldest first. -/
  offers : List Offer
  deriving DecidableEq, Repr

/-! ### CAP: the Capture Engine (Chapters 2 and 4) -/

/-- The six plan states (R22). -/
inductive PlanState where
  | empty
  | ready
  | running
  | draining
  | done
  | halted
  deriving DecidableEq, Repr

/-- Why a plan is HALTED (R23). -/
inductive PlanHalt where
  | hostAbort
  | samplingStopped
  deriving DecidableEq, Repr

/-- How many offers a plan accepts before it drains (R22). -/
inductive RunMode where
  | single
  | count (n : Nat)
  | continuous
  deriving DecidableEq, Repr

/-- What a plan does with an offer while it is busy (R22). -/
inductive BusyPolicy where
  | queue
  | drop
  deriving DecidableEq, Repr

/-- Shots remaining (R23). -/
inductive Shots where
  | count (n : Nat)
  | unlimited
  deriving DecidableEq, Repr

/-- A plan definition (R22). -/
structure PlanDef where
  channels : ChannelSet
  decimation : Nat
  pre : Nat
  post : Nat
  sources : SourceSet
  runMode : RunMode
  policy : BusyPolicy
  holdoff : Nat
  lane : Fin 2
  retain : Bool
  deriving DecidableEq, Repr

/-- The five counters of a plan, each 0..65,535 and saturating (R35). -/
structure PlanCounters where
  accepted : Nat
  droppedBusy : Nat
  droppedFull : Nat
  ignoredHoldoff : Nat
  expired : Nat
  deriving DecidableEq, Repr

/-- A plan: its definition and its run state (R22, R23). The field "jobs pending" of R23 is not stored twice: it is the number
of the plan's jobs in the Pending Job Queue (R59), Part.jobsPending. -/
structure Plan where
  state : PlanState
  definition : Option PlanDef
  haltReason : Option PlanHalt
  shots : Shots
  lastAccepted : Option Nat
  /-- The ID of the plan's OPEN record. -/
  openRecord : Option Nat
  counters : PlanCounters
  deriving DecidableEq, Repr

/-- A pending job (R59). -/
structure Job where
  plan : Fin 8
  sources : SourceSet
  tick : Nat
  deriving DecidableEq, Repr

/-- The phases of a window (R65). -/
inductive Phase where
  | copying
  | live
  | ended
  deriving DecidableEq, Repr

/-- A window in progress (R65). -/
structure Window where
  recordId : Nat
  plan : Fin 8
  /-- The trigger tick T. -/
  tick : Nat
  /-- The first tick, T - pre'. -/
  first : Nat
  /-- The last tick, T + post - 1. -/
  last : Nat
  decimation : Nat
  channels : ChannelSet
  /-- The copy position: the next tick the catch-up copy reads. -/
  copyPos : Nat
  phase : Phase
  /-- The window's clipped mark (R71). -/
  clipped : Bool
  deriving DecidableEq, Repr

/-! ### REC: Record Memory (Chapter 1) -/

/-- The four record states (R12). -/
inductive RecordState where
  | opened
  | sealed
  | sending
  | delivered
  deriving DecidableEq, Repr

/-- The flags of a record (R9, R75). -/
structure RecordFlags where
  shortPre : Bool
  truncated : Bool
  clipped : Bool
  rangeUnknown : Bool
  replayed : Bool
  deriving DecidableEq, Repr

/-- A range segment of one channel: its first frame index and its range, absent where unknown (R69). -/
structure Segment where
  frame : Nat
  range : Option Nat
  deriving DecidableEq, Repr

/-- A live record (R9). Its channel list is the ascending list of its channel set. -/
structure Record where
  id : Nat
  plan : Fin 8
  lane : Fin 2
  retain : Bool
  sources : SourceSet
  tick : Nat
  preRequested : Nat
  preStored : Nat
  postRequested : Nat
  decimation : Nat
  channels : ChannelSet
  /-- The range segments of each channel of the record, in ascending channel order. -/
  segments : List (List Segment)
  state : RecordState
  postStored : Nat
  frames : Nat
  words : Nat
  flags : RecordFlags
  /-- The block chain (R2). -/
  chain : List Nat
  /-- The delivery count, 0..255, saturating. -/
  deliveries : Nat
  deriving DecidableEq, Repr

/-! ### DLV: the delivery lanes (Chapters 5 and 6) -/

/-- The six lane states (R82). -/
inductive LaneState where
  | idle
  | ready
  | sending
  | awaiting
  | backoff
  | halted
  deriving DecidableEq, Repr

/-- Why a lane is HALTED (R81). -/
inductive LaneHalt where
  | host
  | retryLimit
  deriving DecidableEq, Repr

/-- A packet in a staging buffer (R85, R86): its record, its index, the total packets of its delivery, its valid byte count and
its bytes, padding included. While a data packet is FILLING its bytes are not there yet. -/
structure Packet where
  recordId : Nat
  index : Nat
  total : Nat
  valid : Nat
  bytes : List Byte
  deriving DecidableEq, Repr

/-- A staging buffer (R88). -/
inductive Buffer where
  | empty
  | filling (packet : Packet)
  | holding (packet : Packet)
  deriving DecidableEq, Repr

/-- A lane's current record with its total packets and next staging index (R84). -/
structure Current where
  recordId : Nat
  total : Nat
  next : Nat
  deriving DecidableEq, Repr

/-- The awaiting packet (R81). -/
structure Awaiting where
  recordId : Nat
  index : Nat
  buffer : Fin 2
  deriving DecidableEq, Repr

/-- The configuration of a lane (R81). -/
structure LaneConfig where
  /-- Packet unit count, 1..15. -/
  k : Nat
  ackTimeout : Nat
  backoffInterval : Nat
  retryLimit : Nat
  deriving DecidableEq, Repr

/-- The four counters of a lane, each 0..65,535 and saturating (R100). -/
structure LaneCounters where
  transmissions : Nat
  resends : Nat
  stale : Nat
  completed : Nat
  deriving DecidableEq, Repr

/-- A delivery lane (R81). -/
structure Lane where
  state : LaneState
  halt : Option LaneHalt
  /-- The delivery queue: record IDs, oldest first. -/
  queue : List Nat
  current : Option Current
  /-- The sequence bit s, which names the send buffer. -/
  seq : Fin 2
  /-- RESYNC pending. -/
  resync : Bool
  /-- B0 and B1. -/
  buffers : Vector Buffer 2
  awaiting : Option Awaiting
  /-- The buffer emptied while its packet is in flight, which becomes EMPTY at that frame's completion (R91, R102). -/
  releasing : Option (Fin 2)
  /-- RESET FLUSH was taken while the lane's frame is in flight, which decides the lane's state at its completion (R91, R102). -/
  flushed : Bool
  /-- A halt is noted (R110). -/
  haltNoted : Bool
  retries : Nat
  /-- Remaining milliseconds of the ack timer while it runs (R111). -/
  ackTimer : Option Nat
  /-- Remaining milliseconds of the backoff timer while it runs (R112). -/
  backoffTimer : Option Nat
  config : LaneConfig
  counters : LaneCounters
  deriving DecidableEq, Repr

/-! ### LNK: the Message Link (Chapters 9 and 10) -/

/-- The transport chosen at the last device reset, with the UART rate index (R152). -/
inductive Transport where
  | uart (rate : Fin 4)
  | spi
  deriving DecidableEq, Repr

/-- The states of the inbound parser (R155). -/
inductive ParserState where
  | hunt
  | length
  | body
  | check
  deriving DecidableEq, Repr

/-- The inbound parser (R155): the bytes kept since the start marker (length, kind, tag, payload), the length read from the two
length bytes, the first CRC byte once it has been taken, and the whole milliseconds since the last byte of the frame. -/
structure Parser where
  state : ParserState
  kept : List Byte
  length : Nat
  crcLow : Option Byte
  gap : Nat
  deriving DecidableEq, Repr

/-- The six causes of a discarded frame (R156). -/
inductive LinkCause where
  | length
  | crc
  | kind
  | gap
  | cut
  | noRoom
  deriving DecidableEq, Repr

/-- The six link error counters, each 0..65,535 and saturating (R168). -/
structure LinkErrors where
  length : Nat
  crc : Nat
  kind : Nat
  gap : Nat
  cut : Nat
  noRoom : Nat
  deriving DecidableEq, Repr

/-- The status codes of a response (section 10.4). -/
inductive Status where
  | ok
  | unknownCommand
  | badLength
  | badArg
  | badState
  | busy
  | locked
  | noSuch
  | unsupported
  | overflow
  | tagInUse
  deriving DecidableEq, Repr

/-- A response in the response queue (R160, R162). -/
structure Response where
  tag : Byte
  code : Byte
  status : Status
  results : List Byte
  /-- In a reserved entry: the response of an admitted command. -/
  reserved : Bool
  /-- The OK response of the RESET FULL in execution (R169). -/
  resetFull : Bool
  deriving DecidableEq, Repr

/-- A command in the intake queue (R160). -/
structure IntakeCommand where
  tag : Byte
  payload : List Byte
  deriving DecidableEq, Repr

/-- The causes of a device reset (R171). -/
inductive ResetCause where
  | power
  | pin
  | command
  deriving DecidableEq, Repr

/-- Why an offer is dropped (R37). -/
inductive DropReason where
  | busy
  | queueFull
  deriving DecidableEq, Repr

/-- Why a job is removed with a JOB_EXPIRED report (R63, R39). -/
inductive ExpiryReason where
  | history
  | samplingStopped
  deriving DecidableEq, Repr

/-- How a ONCE pass ended (R145, R146). -/
inductive PassOutcome where
  | settled
  | limit
  | cancelled
  deriving DecidableEq, Repr

/-- The reports (section 10.5). -/
inductive Report where
  | resetDone (cause : ResetCause)
  | linkError (cause : LinkCause) (tag : Option Byte)
  | jobDropped (plan : Fin 8) (tick : Nat) (sources : SourceSet) (reason : DropReason)
  | jobExpired (plan : Fin 8) (tick : Nat) (reason : ExpiryReason)
  | planState (plan : Fin 8) (state : PlanState) (halt : Option PlanHalt) (removed : Nat)
  | recordSealed (id : Nat) (plan : Fin 8) (lane : Fin 2) (flags : RecordFlags) (words : Nat)
  | recordAbandoned (lane : Fin 2) (id : Nat) (reached : Nat)
  | laneHalted (lane : Fin 2) (reason : LaneHalt) (seq : Fin 2) (packet : Option (Nat × Nat)) (retries : Nat)
  | rangeChanged (channel : Fin 8) (oldRange newRange : Nat) (once : Bool)
  | rangeSettled (channel : Fin 8) (range : Nat) (outcome : PassOutcome)
  | samplerStopped (lastTick : Nat)
  deriving DecidableEq, Repr

/-- A report in the report queue with the lost count it carries (R164). -/
structure QueuedReport where
  lost : Nat
  report : Report
  deriving DecidableEq, Repr

/-- What an outbound frame carries, as far as its completion needs to know. -/
inductive Cargo where
  | response (resetFull : Bool)
  | report
  | data (lane : Fin 2)
  deriving DecidableEq, Repr

/-- The outbound frame in flight: its bytes, and how many of them the host has clocked out under SPI (R153, R166). -/
structure InFlight where
  cargo : Cargo
  bytes : List Byte
  exchanged : Nat
  deriving DecidableEq, Repr

/-- LNK (R152 to R171). -/
structure Link where
  transport : Transport
  parser : Parser
  /-- The intake queue; its head is the command in execution (R160). -/
  intake : List IntakeCommand
  /-- The command in execution has had its effects, and its OK response is still to be queued (R161). -/
  finishing : Bool
  /-- A RESET FULL is in execution, its OK response queued (R169). -/
  resetting : Bool
  responses : List Response
  reports : List QueuedReport
  /-- The lost count, 0..255 (R164). -/
  lost : Nat
  /-- The lane turn (R165). -/
  turn : Fin 2
  inFlight : Option InFlight
  /-- The byte last exchanged on SDO (R153). -/
  sdo : Byte
  errors : LinkErrors
  deriving DecidableEq, Repr

/-! ### The part -/

/-- The whole part, block by block. -/
structure Part where
  smp : Sampler
  /-- The fill of each channel's history ring, 0..16,384 (R128). -/
  fill : Vector Nat 8
  /-- The history rings: the code at position i of channel c is the word at byte address 2 × (16,384 × c + i), low byte
  first. -/
  history : Memory
  channels : Vector Channel 8
  lines : Vector ExtLine 4
  detectors : Vector Detector 8
  trg : TriggerUnit
  plans : Vector Plan 8
  /-- The Pending Job Queue, oldest first (R59). -/
  jobs : List Job
  /-- The window slots W0 to W3 (R65). -/
  slots : Vector (Option Window) 4
  /-- The Block Pool: word w of block b is at byte address 512 × b + 2 × w, low byte first (R3). -/
  blocks : Memory
  /-- The free list, head first (R1). -/
  freeList : List Nat
  /-- The live records, in creation order (R8). -/
  records : List Record
  /-- The record ID counter (R11). -/
  nextId : Nat
  lanes : Vector Lane 2
  lnk : Link
  deriving DecidableEq, Repr

end Sys2Proof.Machine
end

