-- ==== Sys2Proof/Machine/Reset.lean ====
section
/-!
DEFINITION. The values every block takes at a device reset (R20, R41, R58, R79, R101, R120, R135, R151, R171).
-/

namespace Sys2Proof.Machine

/-- R171, R135: STOPPED, rate code 3, all eight channels, tick counter 0, no newest sampled tick. -/
def Sampler.reset : Sampler :=
  { running := false, rateCode := 3, enabled := 0xFF, tickCounter := 0, newest := none }

/-- R151. -/
def Channel.reset : Channel :=
  { range := 0, mode := .manual, counted := none, spanPos := 0, spanPeak := 0, spanClip := false, arriving := none,
    log := [], baseRange := 0, baseTick := 0, lockCount := 0 }

/-- R58: disabled, RISING, latch clear, the reference level taken from the line. -/
def ExtLine.reset (level : Bool) : ExtLine :=
  { enabled := false, edge := .rising, level := level, reference := level, latch := false }

/-- R58. -/
def Detector.reset : Detector :=
  { enabled := false, threshold := 0, hysteresis := 0, direction := .rising, state := .unknown }

/-- R58: no TRIGGER in execution, offer count 0, last offer absent. -/
def TriggerUnit.reset : TriggerUnit :=
  { run := none, offerCount := 0, lastOffer := none, offers := [] }

/-- The five counters at 0 (R35). -/
def PlanCounters.zero : PlanCounters :=
  { accepted := 0, droppedBusy := 0, droppedFull := 0, ignoredHoldoff := 0, expired := 0 }

/-- R41, R23: EMPTY, no definition, run state fields 0 or absent. -/
def Plan.reset : Plan :=
  { state := .empty, definition := none, haltReason := none, shots := .count 0, lastAccepted := none,
    openRecord := none, counters := PlanCounters.zero }

/-- The four counters at 0 (R100). -/
def LaneCounters.zero : LaneCounters :=
  { transmissions := 0, resends := 0, stale := 0, completed := 0 }

/-- R101. -/
def Lane.reset : Lane :=
  { state := .idle, halt := none, queue := [], current := none, seq := 0, resync := true,
    buffers := Vector.replicate 2 .empty, awaiting := none, releasing := none, flushed := false, haltNoted := false, retries := 0,
    ackTimer := none, backoffTimer := none,
    config := { k := 8, ackTimeout := 50, backoffInterval := 10, retryLimit := 3 },
    counters := LaneCounters.zero }

/-- The parser in HUNT, holding nothing, its gap timer stopped (R155, R171). -/
def Parser.hunting : Parser :=
  { state := .hunt, kept := [], length := 0, crcLow := none, gap := 0 }

/-- Every link error counter 0 (R171). -/
def LinkErrors.zero : LinkErrors :=
  { length := 0, crc := 0, kind := 0, gap := 0, cut := 0, noRoom := 0 }

/-- The UART rate index that BAUD1 and BAUD0 select (R152). -/
def uartRate (baud1 baud0 : Bool) : Fin 4 :=
  match baud1, baud0 with
  | false, false => 0
  | false, true => 1
  | true, false => 2
  | true, true => 3

/-- The transport that the straps select (R152). -/
def ResetPins.transport (pins : ResetPins) : Transport :=
  if pins.spi then .spi else .uart (uartRate pins.baud1 pins.baud0)

/-- R171, R163, R164: LNK before it posts RESET_DONE. -/
def Link.reset (pins : ResetPins) : Link :=
  { transport := ResetPins.transport pins, parser := Parser.hunting, intake := [], finishing := false, resetting := false, responses := [],
    reports := [], lost := 0, turn := 0, inFlight := none, sdo := 0, errors := LinkErrors.zero }

/-- The free list of an empty pool: blocks 0 to 1023 ascending (R1, R20). -/
def allBlocks : List Nat :=
  List.range Config.blockCount

/-- Every block at its device reset values, before RESET_DONE is posted. The codes of the history rings and the contents of the
blocks are not part of the reset (R20, R130): the caller passes what they hold. -/
def Part.cleared (pins : ResetPins) (history blocks : Memory) : Part :=
  { smp := Sampler.reset
    fill := Vector.replicate 8 0
    history := history
    channels := Vector.replicate 8 Channel.reset
    lines := #v[ExtLine.reset pins.ext[0], ExtLine.reset pins.ext[1], ExtLine.reset pins.ext[2],
                ExtLine.reset pins.ext[3]]
    detectors := Vector.replicate 8 Detector.reset
    trg := TriggerUnit.reset
    plans := Vector.replicate 8 Plan.reset
    jobs := []
    slots := Vector.replicate 4 none
    blocks := blocks
    freeList := allBlocks
    records := []
    nextId := 1
    lanes := Vector.replicate 2 Lane.reset
    lnk := Link.reset pins }

/-- The pins of the reset state that the model starts from: UART at 115,200, every external line low (assumption 3). -/
def defaultPins : ResetPins :=
  { spi := false, baud1 := false, baud0 := false, ext := Vector.replicate 4 false }

/-- The part right after power has been applied: cleared, with RESET_DONE posted (R171). -/
def Part.atPowerOn : Part :=
  let p := Part.cleared defaultPins [] []
  { p with lnk := { p.lnk with reports := [{ lost := 0, report := .resetDone .power }] } }

end Sys2Proof.Machine
end

