-- ==== Sys2Proof/Machine/State.lean ====
section
/-!
DEFINITION. The state of the model: the part, and the steps that wait to be taken, in the order in which the world takes them.
-/

namespace Sys2Proof.Machine

/-- The machine's state. -/
structure State where
  /-- The WC8 itself. -/
  part : Part
  /-- The steps waiting to be taken, first in, first out. -/
  pending : List Instr
  deriving DecidableEq, Repr

/-- What stops the machine with a fault: nothing. The manual gives every step an effect or says that it has none, so no step
raises a fault, and the type has no constructor (safe: a stop that cannot happen hides nothing). -/
inductive Fault where
  deriving DecidableEq, Repr

/-- What stops the machine with a refusal. -/
inductive Refusal where
  /-- Raised only by an arm of exec whose step has no meaning yet; at present by none. Safe: nothing follows from a run
  that stops. -/
  | notModelled (mnemonic : String)
  deriving DecidableEq, Repr

/-- The machine right after reset: power applied, RESET_DONE waiting in the report queue, no step pending. -/
def State.reset : State :=
  { part := Part.atPowerOn, pending := [] }

end Sys2Proof.Machine
end

