-- ==== Sys2Proof/Machine/Operands.lean ====
section
/-!
DEFINITION. Bytes and operands: the little-endian fields of Chapter 10, the CRC, the payload of a host command read and written,
and the decoding of each argument (R172 to R175).
-/

namespace Sys2Proof.Machine

/-! ### Little-endian fields (R172) -/

/-- The low `n` bytes of a number, least significant first. -/
def leBytes : Nat → Nat → List Byte
  | 0, _ => []
  | n + 1, v => BitVec.ofNat 8 v :: leBytes n (v / 256)

/-- The number that bytes stand for, least significant first. -/
def leNat : List Byte → Nat
  | [] => 0
  | b :: bs => b.toNat + 256 * leNat bs

/-- The two bytes of a 16-bit word, low byte first. -/
def wordBytes (w : BitVec 16) : List Byte :=
  [w.extractLsb' 0 8, w.extractLsb' 8 8]

/-- The 16-bit word of a low and a high byte. -/
def byteWord (low high : Byte) : BitVec 16 :=
  high ++ low

/-- The six bytes of a tick (Chapter 10). A tick beyond 2^48 - 1 has no encoding: its bytes are a free value (assumption 2). -/
def tickBytes (t : Nat) : List Byte :=
  if t ≤ Config.lastTick then leBytes 6 t else leBytes 6 (Config.tickBeyondField t).toNat

/-- A yes-no byte: 0 no, 1 yes (section 10.2). -/
def boolByte (b : Bool) : Byte :=
  if b then 1 else 0

/-- A field with a presence byte: 1 and the value's bytes, or 0 and as many zero bytes (R176). -/
def present (width : Nat) : Option (List Byte) → List Byte
  | some bytes => 1 :: bytes
  | none => 0 :: List.replicate width 0

/-! ### The frame check (R172) -/

/-- One of the eight shifts: left by one place, with 8005h combined when the bit shifted out was 1. -/
def crcShift (v : BitVec 16) : BitVec 16 :=
  if v.msb then (v <<< 1) ^^^ 0x8005 else v <<< 1

/-- The running value after one byte. -/
def crcByte (v : BitVec 16) (b : Byte) : BitVec 16 :=
  let x := v ^^^ (b ++ (0 : Byte))
  crcShift (crcShift (crcShift (crcShift (crcShift (crcShift (crcShift (crcShift x)))))))

/-- The CRC over the length, kind, tag and payload bytes. -/
def crc16 (bytes : List Byte) : BitVec 16 :=
  bytes.foldl crcByte 0xFFFF

/-- The bytes of a frame that its CRC covers: length, kind, tag, payload (section 10.1). -/
def frameBody (kind tag : Byte) (payload : List Byte) : List Byte :=
  leBytes 2 (payload.length + 2) ++ kind :: tag :: payload

/-- A whole frame: start marker C3h, body, CRC low byte first (section 10.1). -/
def frameBytes (kind tag : Byte) (payload : List Byte) : List Byte :=
  0xC3 :: (frameBody kind tag payload ++ wordBytes (crc16 (frameBody kind tag payload)))

/-! ### Command payloads (section 10.2, R173) -/

/-- What LNK reads from a command payload before the command reaches its owner (R162, R173). -/
inductive Decoded where
  /-- The payload is empty (code 00h) or its code is not in the command table. -/
  | unknown (code : Byte)
  /-- A known code whose payload has another length than the table's. -/
  | badLength (code : Byte)
  | command (c : Command)
  deriving DecidableEq, Repr

/-- The code byte of a command. -/
def commandCode : Command → Byte
  | .inquire => 0x01
  | .status => 0x02
  | .reset _ => 0x03
  | .samplingSet _ _ => 0x10
  | .samplingStart => 0x11
  | .samplingStop => 0x12
  | .rangeSet _ _ => 0x18
  | .rangeMode _ _ => 0x19
  | .channelGet _ => 0x1A
  | .extlineSet _ _ _ => 0x20
  | .detectorSet _ _ _ _ _ => 0x21
  | .trigger _ => 0x22
  | .planDefine _ _ => 0x30
  | .planClear _ => 0x31
  | .planStart _ => 0x32
  | .planStop _ _ => 0x33
  | .planGet _ => 0x34
  | .recordList => 0x40
  | .recordDiscard _ => 0x41
  | .recordRelease _ => 0x42
  | .recordReplay _ => 0x43
  | .laneSet _ _ _ _ _ => 0x50
  | .laneClearHalt _ => 0x51
  | .laneGet _ => 0x52

/-- The 16 bytes of a plan definition. -/
def planArgBytes (d : PlanArgs) : List Byte :=
  wordBytes d.channels ++ [d.decimation] ++ wordBytes d.pre ++ wordBytes d.post ++ wordBytes d.sources ++
    [d.runMode, d.count, d.policy] ++ wordBytes d.holdoff ++ [d.lane, d.retain]

/-- The argument bytes of a command. -/
def commandArgs : Command → List Byte
  | .inquire => []
  | .status => []
  | .reset mode => [mode]
  | .samplingSet rate channels => rate :: wordBytes channels
  | .samplingStart => []
  | .samplingStop => []
  | .rangeSet channel range => [channel, range]
  | .rangeMode channel mode => [channel, mode]
  | .channelGet channel => [channel]
  | .extlineSet line enabled edge => [line, enabled, edge]
  | .detectorSet channel enabled threshold hysteresis direction =>
    channel :: enabled :: (wordBytes threshold ++ wordBytes hysteresis ++ [direction])
  | .trigger mask => [mask]
  | .planDefine plan d => plan :: planArgBytes d
  | .planClear plan => [plan]
  | .planStart plan => [plan]
  | .planStop plan mode => [plan, mode]
  | .planGet plan => [plan]
  | .recordList => []
  | .recordDiscard id => wordBytes id
  | .recordRelease id => wordBytes id
  | .recordReplay id => wordBytes id
  | .laneSet lane k ackTimeout backoff retryLimit =>
    lane :: k :: (wordBytes ackTimeout ++ wordBytes backoff ++ [retryLimit])
  | .laneClearHalt lane => [lane]
  | .laneGet lane => [lane]

/-- The payload of a command: its code, then its arguments. -/
def encodeCommand (c : Command) : List Byte :=
  commandCode c :: commandArgs c

/-- A command without arguments. -/
def readNone (code : Byte) (c : Command) : List Byte → Decoded
  | [] => .command c
  | _ => .badLength code

/-- A command of one argument byte. -/
def readOne (code : Byte) (f : Byte → Command) : List Byte → Decoded
  | [a] => .command (f a)
  | _ => .badLength code

/-- A command of two argument bytes. -/
def readTwo (code : Byte) (f : Byte → Byte → Command) : List Byte → Decoded
  | [a, b] => .command (f a b)
  | _ => .badLength code

/-- A command of three argument bytes. -/
def readThree (code : Byte) (f : Byte → Byte → Byte → Command) : List Byte → Decoded
  | [a, b, c] => .command (f a b c)
  | _ => .badLength code

/-- A command whose argument is a record ID. -/
def readId (code : Byte) (f : BitVec 16 → Command) : List Byte → Decoded
  | [low, high] => .command (f (byteWord low high))
  | _ => .badLength code

/-- The arguments of SAMPLING_SET. -/
def readSamplingSet (code : Byte) : List Byte → Decoded
  | [rate, c0, c1] => .command (.samplingSet rate (byteWord c0 c1))
  | _ => .badLength code

/-- The arguments of DETECTOR_SET. -/
def readDetectorSet (code : Byte) : List Byte → Decoded
  | [channel, enabled, t0, t1, h0, h1, direction] =>
    .command (.detectorSet channel enabled (byteWord t0 t1) (byteWord h0 h1) direction)
  | _ => .badLength code

/-- The arguments of LANE_SET. -/
def readLaneSet (code : Byte) : List Byte → Decoded
  | [lane, k, a0, a1, b0, b1, limit] =>
    .command (.laneSet lane k (byteWord a0 a1) (byteWord b0 b1) limit)
  | _ => .badLength code

/-- The arguments of PLAN_DEFINE. -/
def readPlanDefine (code : Byte) : List Byte → Decoded
  | [plan, c0, c1, d, p0, p1, q0, q1, s0, s1, mode, n, policy, h0, h1, lane, retain] =>
    .command (.planDefine plan
      { channels := byteWord c0 c1, decimation := d, pre := byteWord p0 p1, post := byteWord q0 q1,
        sources := byteWord s0 s1, runMode := mode, count := n, policy := policy,
        holdoff := byteWord h0 h1, lane := lane, retain := retain })
  | _ => .badLength code

/-- The command that a code and argument bytes give: the command table of section 10.2. -/
def decodeArgs (code : Byte) (args : List Byte) : Decoded :=
  match code.toNat with
  | 0x01 => readNone code .inquire args
  | 0x02 => readNone code .status args
  | 0x03 => readOne code .reset args
  | 0x10 => readSamplingSet code args
  | 0x11 => readNone code .samplingStart args
  | 0x12 => readNone code .samplingStop args
  | 0x18 => readTwo code .rangeSet args
  | 0x19 => readTwo code .rangeMode args
  | 0x1A => readOne code .channelGet args
  | 0x20 => readThree code .extlineSet args
  | 0x21 => readDetectorSet code args
  | 0x22 => readOne code .trigger args
  | 0x30 => readPlanDefine code args
  | 0x31 => readOne code .planClear args
  | 0x32 => readOne code .planStart args
  | 0x33 => readTwo code .planStop args
  | 0x34 => readOne code .planGet args
  | 0x40 => readNone code .recordList args
  | 0x41 => readId code .recordDiscard args
  | 0x42 => readId code .recordRelease args
  | 0x43 => readId code .recordReplay args
  | 0x50 => readLaneSet code args
  | 0x51 => readOne code .laneClearHalt args
  | 0x52 => readOne code .laneGet args
  | _ => .unknown code

/-- The payload read at the start of a command's execution (R173). -/
def decodePayload : List Byte → Decoded
  | [] => .unknown 0
  | code :: args => decodeArgs code args

/-- The command code that a response carries: the first payload byte, or 00h for an empty payload (R173). -/
def payloadCode : List Byte → Byte
  | [] => 0
  | code :: _ => code

/-! ### Arguments (R174): none where the bytes stand for no named value -/

/-- A channel index, 0..7. -/
def channelArg (b : Byte) : Option (Fin 8) :=
  if h : b.toNat < 8 then some ⟨b.toNat, h⟩ else none

/-- A plan index, 0..7. -/
def planArg (b : Byte) : Option (Fin 8) :=
  if h : b.toNat < 8 then some ⟨b.toNat, h⟩ else none

/-- An external line index, 0..3. -/
def lineArg (b : Byte) : Option (Fin 4) :=
  if h : b.toNat < 4 then some ⟨b.toNat, h⟩ else none

/-- A lane index, 0 or 1. -/
def laneArg (b : Byte) : Option (Fin 2) :=
  if h : b.toNat < 2 then some ⟨b.toNat, h⟩ else none

/-- An enabled or retain byte. -/
def boolArg (b : Byte) : Option Bool :=
  match b.toNat with
  | 0 => some false
  | 1 => some true
  | _ => none

/-- An edge byte. -/
def edgeArg (b : Byte) : Option EdgeSel :=
  match b.toNat with
  | 0 => some .rising
  | 1 => some .falling
  | 2 => some .both
  | _ => none

/-- A direction byte. -/
def directionArg (b : Byte) : Option Direction :=
  match b.toNat with
  | 0 => some .rising
  | 1 => some .falling
  | 2 => some .either
  | _ => none

/-- A RANGE_MODE mode byte. -/
def rangeModeArg (b : Byte) : Option RangeMode :=
  match b.toNat with
  | 0 => some .manual
  | 1 => some .track
  | 2 => some .once
  | _ => none

/-- An inbound channel set: none if it is empty or names a channel above CH7 (R124, R24). -/
def channelSetArg (w : BitVec 16) : Option ChannelSet :=
  if 0 < w.toNat ∧ w.toNat < 256 then some (w.extractLsb' 0 8) else none

/-- An inbound source set: none if it is empty or names a source outside the thirteen (R24, R174). -/
def sourceSetArg (w : BitVec 16) : Option SourceSet :=
  if 0 < w.toNat ∧ w.toNat < 8192 then some (w.extractLsb' 0 13) else none

/-- A decimation byte: 1, 2, 4, 8 or 16. -/
def decimationArg (b : Byte) : Option Nat :=
  if b.toNat ∈ [1, 2, 4, 8, 16] then some b.toNat else none

/-- A run mode byte with its count byte, which is read only for COUNT (R174). -/
def runModeArg (mode count : Byte) : Option RunMode :=
  match mode.toNat with
  | 0 => some .single
  | 1 => if 2 ≤ count.toNat then some (.count count.toNat) else none
  | 2 => some .continuous
  | _ => none

/-- A busy policy byte. -/
def policyArg (b : Byte) : Option BusyPolicy :=
  match b.toNat with
  | 0 => some .queue
  | 1 => some .drop
  | _ => none

/-- The definition fields of a PLAN_DEFINE, none if one is outside the values of R22 (check 3 of R24). -/
def planDefArg (d : PlanArgs) : Option PlanDef :=
  match channelSetArg d.channels, decimationArg d.decimation, sourceSetArg d.sources, runModeArg d.runMode d.count,
    policyArg d.policy, laneArg d.lane, boolArg d.retain with
  | some channels, some decimation, some sources, some runMode, some policy, some lane, some retain =>
    if d.pre.toNat ≤ 16383 ∧ 1 ≤ d.post.toNat then
      some { channels := channels, decimation := decimation, pre := d.pre.toNat, post := d.post.toNat,
             sources := sources, runMode := runMode, policy := policy, holdoff := d.holdoff.toNat,
             lane := lane, retain := retain }
    else none
  | _, _, _, _, _, _, _ => none

/-- The four verdicts of an ACK (R103). -/
inductive Verdict where
  | accept
  | retry
  | hold
  | halt
  deriving DecidableEq, Repr

/-- The lane an ACK names: bit 0 of its lane byte (R175). -/
def ackLane (b : Byte) : Fin 2 :=
  if b.getLsbD 0 then 1 else 0

/-- The sequence bit of an ACK: bit 0 of its sequence byte (R175). -/
def ackSeq (b : Byte) : Fin 2 :=
  if b.getLsbD 0 then 1 else 0

/-- The verdict of an ACK: bits 0 and 1 of its verdict byte (R175). -/
def ackVerdict (b : Byte) : Verdict :=
  match b.getLsbD 1, b.getLsbD 0 with
  | false, false => .accept
  | false, true => .retry
  | true, false => .hold
  | true, true => .halt

/-! ### Members of sets -/

/-- The channels of a set, ascending. -/
def channelList (set : ChannelSet) : List (Fin 8) :=
  (List.finRange 8).filter (fun c => set.getLsbD c.val)

/-- The eight plans, ascending. -/
def allPlans : List (Fin 8) :=
  [0, 1, 2, 3, 4, 5, 6, 7]

/-- The eight channels, ascending. -/
def allChannels : List (Fin 8) :=
  [0, 1, 2, 3, 4, 5, 6, 7]

/-- The four external lines, ascending. -/
def allLines : List (Fin 4) :=
  [0, 1, 2, 3]

/-- The four window slots, ascending. -/
def allSlots : List (Fin 4) :=
  [0, 1, 2, 3]

/-- The plan mask of one plan. -/
def planBit (i : Fin 8) : PlanSet :=
  (1 : PlanSet) <<< i.val

/-- The source EXTn. -/
def extSource (n : Fin 4) : SourceSet :=
  (1 : SourceSet) <<< n.val

/-- The source LVLn. -/
def lvlSource (n : Fin 8) : SourceSet :=
  (1 : SourceSet) <<< (4 + n.val)

/-- The source SOFT. -/
def softSource : SourceSet :=
  (1 : SourceSet) <<< 12

end Sys2Proof.Machine
end

