-- ==== Sys2Proof/Machine/Flags.lean ====
section
/-!
DEFINITION. The flags and conditions of the part: saturating counts, clipped codes, record flags, the conditions under which the
attention line is asserted, and the span decision.
-/

namespace Sys2Proof.Machine

/-- A counter that stops at its largest value (section 5 of the scope chapter). -/
def satInc (largest n : Nat) : Nat :=
  min (n + 1) largest

/-- A 16-bit saturating counter counted once. -/
def count16 (n : Nat) : Nat :=
  satInc Config.counterMax n

/-- The clipped codes: the two end codes (R127). -/
def isEndCode (c : SampleCode) : Bool :=
  c == 0x8000 || c == 0x7FFF

/-- The magnitude of a code; that of -32,768 is 32,768 (R138). -/
def magnitude (c : SampleCode) : Nat :=
  c.toInt.natAbs

/-- The record flags byte (section 10.4). -/
def flagsByte (f : RecordFlags) : Byte :=
  (if f.shortPre then 1 else 0) ||| (if f.truncated then 2 else 0) ||| (if f.clipped then 4 else 0) |||
    (if f.rangeUnknown then 8 else 0) ||| (if f.replayed then 16 else 0)

/-- The flags of a record at its open (R10): SHORT_PRE and RANGE_UNKNOWN where they apply. -/
def openFlags (pre preStored : Nat) (segments : List (List Segment)) : RecordFlags :=
  { shortPre := decide (preStored < pre), truncated := false, clipped := false,
    rangeUnknown := segments.any (fun s => match s with
      | first :: _ => first.range.isNone
      | [] => false),
    replayed := false }

/-- The flags a seal completes (R74, R75): TRUNCATED for a seal before the end, CLIPPED from the window's clipped mark. -/
def sealFlags (f : RecordFlags) (early clipped : Bool) : RecordFlags :=
  { f with truncated := f.truncated || early, clipped := f.clipped || clipped }

/-- An edge to the given level matches the line's selection (R42). -/
def edgeMatches (sel : EdgeSel) (level : Bool) : Bool :=
  match sel with
  | .rising => level
  | .falling => !level
  | .both => true

/-- The three decisions of a span's evaluation (R139). -/
inductive SpanDecision where
  | widen
  | narrow
  | keep
  deriving DecidableEq, Repr

/-- The maximum range of a channel: 7 for a main channel, 3 for an auxiliary one (R136). -/
def maxRange (ch : Fin 8) : Nat :=
  if ch.val < 6 then 7 else 3

/-- The evaluation of a span (R139), from the range during the span, its peak and its clip mark. -/
def spanDecision (ch : Fin 8) (range peak : Nat) (clip : Bool) : SpanDecision :=
  if (clip || decide (28672 < peak)) && decide (0 < range) then .widen
  else if decide (peak < 12288) && decide (range < maxRange ch) then .narrow
  else .keep

/-- What a level detector's judgement of one code gives: the new state, and whether it crossed rising or falling (R47). -/
def crossing (d : Detector) (code : SampleCode) : DetectorState × Option Bool :=
  let upper := d.threshold.toInt + d.hysteresis
  let lower := d.threshold.toInt - d.hysteresis
  match d.state with
  | .unknown => if d.threshold.toInt ≤ code.toInt then (.above, none) else (.below, none)
  | .below => if upper < code.toInt then (.above, some true) else (.below, none)
  | .above => if code.toInt < lower then (.below, some false) else (.above, none)

/-- A crossing matches the detector's direction (R47); `true` is a rising crossing. -/
def directionMatches (dir : Direction) (rising : Bool) : Bool :=
  match dir with
  | .rising => rising
  | .falling => !rising
  | .either => true

/-- The conditions of R154: something waits or is in flight on the outbound side. -/
def outboundPending (p : Part) : Bool :=
  !p.lnk.responses.isEmpty || !p.lnk.reports.isEmpty || decide (p.lanes[0].state = .ready) ||
    decide (p.lanes[1].state = .ready) || p.lnk.inFlight.isSome

/-- The level of ATTN, true for asserted: under SPI it follows R154, under UART it is deasserted (R152). -/
def attention (p : Part) : Bool :=
  match p.lnk.transport with
  | .spi => outboundPending p
  | .uart _ => false

end Sys2Proof.Machine
end

