-- ==== Sys2Proof/Machine/Ops.lean ====
section
/-!
DEFINITION. The named operations over the part's memories, tables and queues that more than one step uses.
-/

namespace Sys2Proof.Machine

/-- A step's outcome that changes the part and nothing else. -/
def onPart (f : Part → Part) (s : State) : Host.Outcome State Fault Refusal :=
  .next { s with part := f s.part }

/-- The first element that satisfies `q`, changed by `f`. -/
def modifyFirst (q : α → Bool) (f : α → α) : List α → List α
  | [] => []
  | a :: as => if q a then f a :: as else a :: modifyFirst q f as

/-! ### Memory in canonical form -/

/-- What an address that is not listed reads as (assumption 1). -/
def unlistedByte : Byte := 0

/-- The canonical form: addresses strictly rising, no entry equal to what an unlisted address reads as. -/
abbrev Memory.wf (m : Memory) : Prop :=
  m.Pairwise (fun x y => x.1 < y.1) ∧ ∀ c ∈ m, c.2 ≠ unlistedByte

/-- The byte at an address. -/
def Memory.read : Memory → Nat → Byte
  | [], _ => unlistedByte
  | (k, b) :: rest, a => if k = a then b else Memory.read rest a

/-- A byte put before the entries that follow its address, unless it is the byte an unlisted address reads as. -/
def Memory.cons (a : Nat) (b : Byte) (rest : Memory) : Memory :=
  if b = unlistedByte then rest else (a, b) :: rest

/-- A byte written at an address; the canonical form is kept. -/
def Memory.write (a : Nat) (b : Byte) : Memory → Memory
  | [] => Memory.cons a b []
  | (k, c) :: rest =>
    if k < a then (k, c) :: Memory.write a b rest
    else if k = a then Memory.cons a b rest
    else Memory.cons a b ((k, c) :: rest)

/-- The word at an address, low byte first. -/
def Memory.readWord (m : Memory) (a : Nat) : BitVec 16 :=
  byteWord (m.read a) (m.read (a + 1))

/-- A word written at an address, low byte first. -/
def Memory.writeWord (a : Nat) (w : BitVec 16) (m : Memory) : Memory :=
  Memory.write (a + 1) (w.extractLsb' 8 8) (Memory.write a (w.extractLsb' 0 8) m)

/-! ### LNK's queues -/

/-- A report posted (R164): it enters a queue with a free place carrying the lost count, or is dropped and counted. -/
def postReport (r : Report) (p : Part) : Part :=
  if p.lnk.reports.length < Config.reportPlaces then
    { p with lnk := { p.lnk with reports := p.lnk.reports ++ [{ lost := p.lnk.lost, report := r }], lost := 0 } }
  else
    { p with lnk := { p.lnk with lost := satInc 255 p.lnk.lost } }

/-- A response joins the tail of the response queue (R162). -/
def queueResponse (r : Response) (p : Part) : Part :=
  { p with lnk := { p.lnk with responses := p.lnk.responses ++ [r] } }

/-- The number of responses in reserved entries. -/
def reservedInUse (l : Link) : Nat :=
  (l.responses.filter (fun r => r.reserved)).length

/-- The number of responses in unreserved entries. -/
def unreservedInUse (l : Link) : Nat :=
  (l.responses.filter (fun r => !r.reserved)).length

/-- The intake load (R160): commands in the intake queue and responses of admitted commands not yet started; a RESET FULL in
execution counts once, as a command. -/
def intakeLoad (l : Link) : Nat :=
  l.intake.length + (l.responses.filter (fun r => r.reserved && !r.resetFull)).length

/-- A link error counted (R168). -/
def countError (cause : LinkCause) (e : LinkErrors) : LinkErrors :=
  match cause with
  | .length => { e with length := count16 e.length }
  | .crc => { e with crc := count16 e.crc }
  | .kind => { e with kind := count16 e.kind }
  | .gap => { e with gap := count16 e.gap }
  | .cut => { e with cut := count16 e.cut }
  | .noRoom => { e with noRoom := count16 e.noRoom }

/-- A discarded frame's LINK_ERROR report and counter (R156). -/
def linkError (cause : LinkCause) (tag : Option Byte) (p : Part) : Part :=
  postReport (.linkError cause tag) { p with lnk := { p.lnk with errors := countError cause p.lnk.errors } }

/-- The parser returned to HUNT. -/
def parserToHunt (p : Part) : Part :=
  { p with lnk := { p.lnk with parser := Parser.hunting } }

/-! ### History (Chapter 7) -/

/-- The byte address of a channel's ring position for a tick: position t mod 16,384 (R128). -/
def historyAddr (ch : Fin 8) (tick : Nat) : Nat :=
  2 * (Config.historyDepth * ch.val + tick % Config.historyDepth)

/-- The code that a channel's ring holds for a tick. -/
def historyCode (p : Part) (ch : Fin 8) (tick : Nat) : SampleCode :=
  p.history.readWord (historyAddr ch tick)

/-- The oldest retained tick for a newest sampled tick: max(0, newest - 16,383) (R129). -/
def oldestFor (newest : Nat) : Nat :=
  newest - (Config.historyDepth - 1)

/-- The oldest retained tick, absent while the newest sampled tick is absent (R129). -/
def oldestRetained (p : Part) : Option Nat :=
  p.smp.newest.map oldestFor

/-- A tick is held in history (R129). -/
def heldInHistory (p : Part) (t : Nat) : Bool :=
  match p.smp.newest with
  | some n => decide (oldestFor n ≤ t) && decide (t ≤ n)
  | none => false

/-! ### Record Memory (Chapter 1) -/

/-- The live record with an ID (R9). -/
def findRecord (p : Part) (id : Nat) : Option Record :=
  p.records.find? (fun r => r.id == id)

/-- A change to the live record with an ID. -/
def modifyRecord (id : Nat) (f : Record → Record) (p : Part) : Part :=
  { p with records := modifyFirst (fun r => r.id == id) f p.records }

/-- Blocks that words need: ceil(words / 256) (R4). -/
def blocksFor (words : Nat) : Nat :=
  (words + (Config.blockWords - 1)) / Config.blockWords

/-- Sample words of a record of c channels over pre + post ticks thinned by d (R5, R6). -/
def recordWords (c pre post d : Nat) : Nat :=
  c * ((pre + post) / d)

/-- The record ID counter advanced by one; from 65,535 it goes to 1 (R11). -/
def advanceId (n : Nat) : Nat :=
  if Config.maxRecordId ≤ n then 1 else n + 1

/-- The counter advanced past the IDs of live records (R11). -/
def freeIdFrom (live : List Nat) : Nat → Nat → Nat
  | 0, n => n
  | fuel + 1, n => if live.contains n then freeIdFrom live fuel (advanceId n) else n

/-- The ID that the next record takes (R11): 33 tries pass the at most 32 live records. -/
def nextRecordId (p : Part) : Nat :=
  freeIdFrom (p.records.map (fun r => r.id)) (p.records.length + 1) p.nextId

/-- The free of a record at REC (R13, less the re-examination): its chain joins the tail of the free list in chain order, its
slot becomes empty and it leaves the creation order. -/
def freeRecord (id : Nat) (p : Part) : Part :=
  match findRecord p id with
  | some r => { p with freeList := p.freeList ++ r.chain, records := p.records.eraseP (fun r => r.id == id) }
  | none => p

/-- A record's chain trimmed to the blocks of its words; the blocks beyond join the tail of the free list in chain order
(R4, R7). -/
def trimChain (id : Nat) (p : Part) : Part :=
  match findRecord p id with
  | some r =>
    { modifyRecord id (fun r => { r with chain := r.chain.take (blocksFor r.words) }) p with
      freeList := p.freeList ++ r.chain.drop (blocksFor r.words) }
  | none => p

/-- The byte address of word w of a chain, absent beyond the chain: chain position w div 256, offset w mod 256 (R3). -/
def chainAddr (chain : List Nat) (w : Nat) : Option Nat :=
  (chain[w / Config.blockWords]?).map (fun b => 2 * (Config.blockWords * b + w % Config.blockWords))

/-- Words written into a chain from word w on. -/
def storeWords (chain : List Nat) : Nat → List SampleCode → Memory → Memory
  | _, [], m => m
  | w, code :: codes, m =>
    storeWords chain (w + 1) codes
      (match chainAddr chain w with
       | some a => Memory.writeWord a code m
       | none => m)

/-- Byte k of a record's byte stream: word k div 2, low byte first (R85). -/
def streamByte (blocks : Memory) (chain : List Nat) (k : Nat) : Byte :=
  match chainAddr chain (k / 2) with
  | some a => blocks.read (a + k % 2)
  | none => unlistedByte

/-! ### Plans, jobs, slots, channels, lanes -/

/-- A change to one plan. -/
def modifyPlan (i : Fin 8) (f : Plan → Plan) (p : Part) : Part :=
  { p with plans := p.plans.set i.val (f p.plans[i]) }

/-- A change to one channel of RNG. -/
def modifyChannel (c : Fin 8) (f : Channel → Channel) (p : Part) : Part :=
  { p with channels := p.channels.set c.val (f p.channels[c]) }

/-- A change to one level detector. -/
def modifyDetector (c : Fin 8) (f : Detector → Detector) (p : Part) : Part :=
  { p with detectors := p.detectors.set c.val (f p.detectors[c]) }

/-- A change to one external line. -/
def modifyLine (l : Fin 4) (f : ExtLine → ExtLine) (p : Part) : Part :=
  { p with lines := p.lines.set l.val (f p.lines[l]) }

/-- A change to one lane. -/
def modifyLane (l : Fin 2) (f : Lane → Lane) (p : Part) : Part :=
  { p with lanes := p.lanes.set l.val (f p.lanes[l]) }

/-- What a window slot holds. -/
def setSlot (w : Fin 4) (v : Option Window) (p : Part) : Part :=
  { p with slots := p.slots.set w.val v }

/-- A level detector set to UNKNOWN (R48). -/
def detectorUnknown (c : Fin 8) (p : Part) : Part :=
  modifyDetector c (fun d => { d with state := .unknown }) p

/-- The number of a plan's jobs in the Pending Job Queue: the field "jobs pending" of R23 (R59). -/
def Part.jobsPending (p : Part) (i : Fin 8) : Nat :=
  (p.jobs.filter (fun j => j.plan == i)).length

/-- A plan is busy: it has an OPEN record or a pending job (R23). -/
def planBusy (p : Part) (i : Fin 8) : Bool :=
  p.plans[i].openRecord.isSome || p.jobs.any (fun j => j.plan == i)

/-- A DRAINING plan with no pending job and no OPEN record moves to DONE, and PLAN_STATE is posted (R30). -/
def planDoneIfIdle (i : Fin 8) (p : Part) : Part :=
  if p.plans[i].state = .draining ∧ planBusy p i = false then
    postReport (.planState i .done none 0) (modifyPlan i (fun pl => { pl with state := .done }) p)
  else p

/-- A plan moved to HALTED with its PLAN_STATE report, naming the jobs removed without a report of their own (R26). -/
def haltPlan (i : Fin 8) (reason : PlanHalt) (removed : Nat) (p : Part) : Part :=
  postReport (.planState i .halted (some reason) removed)
    (modifyPlan i (fun pl => { pl with state := .halted, haltReason := some reason }) p)

/-! ### Device reset -/

/-- A device reset with its cause (R171): every block at its reset values (the contents of blocks and rings are not cleared,
R20), then RESET_DONE posted. -/
def deviceReset (cause : ResetCause) (pins : ResetPins) (p : Part) : Part :=
  postReport (.resetDone cause) (Part.cleared pins p.history p.blocks)

end Sys2Proof.Machine
end

