-- ==== Sys2Proof/Machine/Messages.lean ====
section
/-!
DEFINITION. The outbound messages as bytes: response payloads and the results of the commands that return data (section 10.4),
report payloads (section 10.5), the DATA header (section 10.6) and the header packet (section 10.7).
-/

namespace Sys2Proof.Machine

/-! ### Enumerated values (section 10.4) -/

def Status.toByte : Status → Byte
  | .ok => 0x00
  | .unknownCommand => 0x01
  | .badLength => 0x02
  | .badArg => 0x03
  | .badState => 0x04
  | .busy => 0x05
  | .locked => 0x06
  | .noSuch => 0x07
  | .unsupported => 0x08
  | .overflow => 0x09
  | .tagInUse => 0x0A

def PlanState.toByte : PlanState → Byte
  | .empty => 0
  | .ready => 1
  | .running => 2
  | .draining => 3
  | .done => 4
  | .halted => 5

def planHaltByte : Option PlanHalt → Byte
  | none => 0
  | some .hostAbort => 1
  | some .samplingStopped => 2

def RecordState.toByte : RecordState → Byte
  | .opened => 0
  | .sealed => 1
  | .sending => 2
  | .delivered => 3

def LaneState.toByte : LaneState → Byte
  | .idle => 0
  | .ready => 1
  | .sending => 2
  | .awaiting => 3
  | .backoff => 4
  | .halted => 5

def laneHaltByte : Option LaneHalt → Byte
  | none => 0
  | some .host => 1
  | some .retryLimit => 2

def Phase.toByte : Phase → Byte
  | .copying => 0
  | .live => 1
  | .ended => 2

def DetectorState.toByte : DetectorState → Byte
  | .unknown => 0
  | .below => 1
  | .above => 2

def ParserState.toByte : ParserState → Byte
  | .hunt => 0
  | .length => 1
  | .body => 2
  | .check => 3

def RangeMode.toByte : RangeMode → Byte
  | .manual => 0
  | .track => 1
  | .once => 2

def EdgeSel.toByte : EdgeSel → Byte
  | .rising => 0
  | .falling => 1
  | .both => 2

def Direction.toByte : Direction → Byte
  | .rising => 0
  | .falling => 1
  | .either => 2

def ResetCause.toByte : ResetCause → Byte
  | .power => 0
  | .pin => 1
  | .command => 2

def LinkCause.toByte : LinkCause → Byte
  | .length => 0
  | .crc => 1
  | .kind => 2
  | .gap => 3
  | .cut => 4
  | .noRoom => 5

def DropReason.toByte : DropReason → Byte
  | .busy => 0
  | .queueFull => 1

def ExpiryReason.toByte : ExpiryReason → Byte
  | .history => 0
  | .samplingStopped => 1

def PassOutcome.toByte : PassOutcome → Byte
  | .settled => 0
  | .limit => 1
  | .cancelled => 2

/-- A number in one byte. -/
def byteOf (n : Nat) : Byte :=
  BitVec.ofNat 8 n

/-- A range: 0..7, or FFh for unknown. -/
def rangeByte : Option Nat → Byte
  | some r => byteOf r
  | none => 0xFF

/-- The transport byte: 0 UART, 1 SPI. -/
def transportByte : Transport → Byte
  | .uart _ => 0
  | .spi => 1

/-- The UART rate index, FFh under SPI. -/
def rateByte : Transport → Byte
  | .uart r => byteOf r.val
  | .spi => 0xFF

/-- A source set in two bytes. -/
def sourceBytes (s : SourceSet) : List Byte :=
  wordBytes (s.setWidth 16)

/-! ### Results (section 10.4) -/

/-- The capability record of INQUIRE, 23 bytes (section 10.4.1, R167). -/
def inquireResults (t : Transport) : List Byte :=
  [1, 1, 8, 0x3F, 7, 3, 7] ++ leBytes 2 Config.historyDepth ++ leBytes 2 Config.blockCount ++
    leBytes 2 Config.blockWords ++ [byteOf Config.recordSlots, byteOf Config.windowSlots, byteOf Config.jobPlaces, 8, 2] ++
    leBytes 2 Config.largestPayload ++ [4, transportByte t, rateByte t]

/-- The results of TRIGGER, 9 bytes (section 10.4.2). -/
def triggerResults (tick : Option Nat) (accepted dropped : PlanSet) : List Byte :=
  present 6 (tick.map tickBytes) ++ [accepted, dropped]

/-- The results of CHANNEL_GET (section 10.4.3, R149). -/
def channelResults (i : Fin 8) (c : Channel) : List Byte :=
  [byteOf i.val, byteOf c.range, c.mode.toByte, byteOf c.lockCount] ++
    present 1 (c.counted.map (fun n => [byteOf n])) ++ [byteOf c.spanPos, byteOf c.baseRange] ++ tickBytes c.baseTick ++
    byteOf c.log.length :: c.log.flatMap (fun e => tickBytes e.tick ++ [byteOf e.range])

/-- The run mode and count bytes of a definition; the count of SINGLE and CONTINUOUS is returned as 0 (R174). -/
def runModeBytes : RunMode → List Byte
  | .single => [0, 0]
  | .count n => [1, byteOf n]
  | .continuous => [2, 0]

/-- The busy policy byte. -/
def policyByte : BusyPolicy → Byte
  | .queue => 0
  | .drop => 1

/-- The 16 bytes of a held plan definition (section 10.2). -/
def planDefBytes (d : PlanDef) : List Byte :=
  wordBytes (d.channels.setWidth 16) ++ [byteOf d.decimation] ++ leBytes 2 d.pre ++ leBytes 2 d.post ++
    sourceBytes d.sources ++ runModeBytes d.runMode ++ [policyByte d.policy] ++ leBytes 2 d.holdoff ++
    [byteOf d.lane.val, boolByte d.retain]

/-- Shots remaining in two bytes, FFFFh for unlimited. -/
def shotsBytes : Shots → List Byte
  | .count n => leBytes 2 n
  | .unlimited => [0xFF, 0xFF]

/-- The results of PLAN_GET, 42 bytes (section 10.4.4, R34). -/
def planResults (p : Part) (i : Fin 8) : List Byte :=
  let pl := p.plans[i]
  [byteOf i.val, pl.state.toByte, planHaltByte pl.haltReason] ++ present 16 (pl.definition.map planDefBytes) ++
    shotsBytes pl.shots ++ present 6 (pl.lastAccepted.map tickBytes) ++ [byteOf (p.jobsPending i)] ++
    leBytes 2 (pl.openRecord.getD 0) ++ leBytes 2 pl.counters.accepted ++ leBytes 2 pl.counters.droppedBusy ++
    leBytes 2 pl.counters.droppedFull ++ leBytes 2 pl.counters.ignoredHoldoff ++ leBytes 2 pl.counters.expired

/-- One entry of RECORD_LIST. -/
def recordEntry (r : Record) : List Byte :=
  leBytes 2 r.id ++ [r.state.toByte, byteOf r.plan.val, byteOf r.lane.val] ++ leBytes 4 r.words ++
    [flagsByte r.flags, byteOf r.deliveries]

/-- The results of RECORD_LIST (section 10.4.5, R14). -/
def recordListResults (p : Part) : List Byte :=
  byteOf p.records.length :: p.records.flatMap recordEntry

/-- A staging buffer in LANE_GET. -/
def bufferBytes : Buffer → List Byte
  | .empty => [0, 0, 0, 0, 0]
  | .filling k => 1 :: (leBytes 2 k.recordId ++ leBytes 2 k.index)
  | .holding k => 2 :: (leBytes 2 k.recordId ++ leBytes 2 k.index)

/-- A timer in LANE_GET: whether it runs, and its remaining milliseconds. -/
def timerBytes : Option Nat → List Byte
  | some ms => 1 :: leBytes 2 ms
  | none => [0, 0, 0]

/-- The results of LANE_GET (section 10.4.6, R99, R120). -/
def laneResults (i : Fin 2) (ln : Lane) : List Byte :=
  [byteOf i.val, ln.state.toByte, laneHaltByte ln.halt, boolByte ln.haltNoted, byteOf ln.seq.val, boolByte ln.resync] ++
    [byteOf ln.config.k] ++ leBytes 2 ln.config.ackTimeout ++ leBytes 2 ln.config.backoffInterval ++
    [byteOf ln.config.retryLimit] ++
    leBytes 2 ln.counters.transmissions ++ leBytes 2 ln.counters.resends ++ leBytes 2 ln.counters.stale ++
    leBytes 2 ln.counters.completed ++ [byteOf ln.retries] ++
    (match ln.current with
      | some c => leBytes 2 c.recordId ++ leBytes 2 c.total ++ leBytes 2 c.next
      | none => [0, 0, 0, 0, 0, 0]) ++
    (match ln.awaiting with
      | some a => leBytes 2 a.recordId ++ leBytes 2 a.index ++ [byteOf a.buffer.val]
      | none => [0, 0, 0, 0, 0]) ++
    bufferBytes ln.buffers[0] ++ bufferBytes ln.buffers[1] ++ timerBytes ln.ackTimer ++ timerBytes ln.backoffTimer ++
    byteOf ln.queue.length :: ln.queue.flatMap (leBytes 2)

/-! ### STATUS (section 10.4.7, R168) -/

/-- The fill that STATUS reports: the one that describes every enabled ring (R128, R134). -/
def reportedFill (p : Part) : Nat :=
  p.fill.toList.foldl max 0

/-- Sampler and history, 24 bytes (R134). -/
def samplerStatus (p : Part) : List Byte :=
  [boolByte p.smp.running, byteOf p.smp.rateCode, p.smp.enabled] ++ tickBytes p.smp.tickCounter ++
    present 6 (p.smp.newest.map tickBytes) ++ leBytes 2 (reportedFill p) ++
    tickBytes ((oldestRetained p).getD 0)

/-- Range control, 24 bytes (R149). -/
def rangeStatus (p : Part) : List Byte :=
  p.channels.toList.flatMap (fun c => [byteOf c.range, c.mode.toByte, byteOf c.lockCount])

/-- External lines, 16 bytes (R57). -/
def lineStatus (p : Part) : List Byte :=
  p.lines.toList.flatMap (fun l => [boolByte l.enabled, l.edge.toByte, boolByte l.level, boolByte l.latch])

/-- Level detectors, 56 bytes (R57). -/
def detectorStatus (p : Part) : List Byte :=
  p.detectors.toList.flatMap (fun d =>
    [boolByte d.enabled] ++ wordBytes d.threshold ++ leBytes 2 d.hysteresis ++ [d.direction.toByte, d.state.toByte])

/-- Offers, 13 bytes (R57). -/
def offerStatus (p : Part) : List Byte :=
  leBytes 4 p.trg.offerCount ++ present 8 (p.trg.lastOffer.map (fun o => tickBytes o.1 ++ sourceBytes o.2))

/-- One window slot, 33 bytes (R78): all zero where the slot is free. -/
def slotStatus (p : Part) : Option Window → List Byte
  | none => List.replicate 33 0
  | some w =>
    1 :: (leBytes 2 w.recordId ++ [byteOf w.plan.val] ++ tickBytes w.tick ++ tickBytes w.first ++ tickBytes w.last ++
      [w.phase.toByte] ++ tickBytes (if w.phase = .copying then w.copyPos else 0) ++
      leBytes 4 (((findRecord p w.recordId).map (fun r => r.frames)).getD 0))

/-- The number of live records in a state (R19). -/
def recordsIn (p : Part) (st : RecordState) : Nat :=
  (p.records.filter (fun r => r.state == st)).length

/-- The total length of all live records' chains (R19). -/
def chainedBlocks (p : Part) : Nat :=
  (p.records.map (fun r => r.chain.length)).sum

/-- Over all OPEN records, chain length minus ceil(word count / 256) (R19). -/
def unfilledBlocks (p : Part) : Nat :=
  ((p.records.filter (fun r => r.state == .opened)).map (fun r => r.chain.length - blocksFor r.words)).sum

/-- Record Memory, 13 bytes (R19). -/
def memoryStatus (p : Part) : List Byte :=
  leBytes 2 p.freeList.length ++ leBytes 2 (chainedBlocks p) ++ leBytes 2 (unfilledBlocks p) ++
    [byteOf p.records.length, byteOf (recordsIn p .opened), byteOf (recordsIn p .sealed),
     byteOf (recordsIn p .sending), byteOf (recordsIn p .delivered)] ++ leBytes 2 p.nextId

/-- One lane, 7 bytes (R99). -/
def laneStatus (ln : Lane) : List Byte :=
  [ln.state.toByte, laneHaltByte ln.halt, byteOf ln.queue.length] ++
    leBytes 2 ((ln.current.map (fun c => c.recordId)).getD 0) ++ [byteOf ln.seq.val, boolByte ln.resync]

/-- The four intake tags, head first, 0 for an empty place. -/
def intakeTags (l : Link) : List Byte :=
  let tags := (l.intake.map (fun c => c.tag)).take Config.intakePlaces
  tags ++ List.replicate (Config.intakePlaces - tags.length) 0

/-- The link, 25 bytes (R168). -/
def linkStatus (l : Link) : List Byte :=
  [transportByte l.transport, rateByte l.transport, l.parser.state.toByte, byteOf l.intake.length] ++ intakeTags l ++
    [byteOf (reservedInUse l), byteOf (unreservedInUse l), byteOf l.reports.length, byteOf l.lost, byteOf l.turn.val] ++
    leBytes 2 l.errors.length ++ leBytes 2 l.errors.crc ++ leBytes 2 l.errors.kind ++ leBytes 2 l.errors.gap ++
    leBytes 2 l.errors.cut ++ leBytes 2 l.errors.noRoom

/-- The Pending Job Queue, 1 + 9n bytes (R78). -/
def jobStatus (p : Part) : List Byte :=
  byteOf p.jobs.length :: p.jobs.flatMap (fun j => [byteOf j.plan.val] ++ tickBytes j.tick ++ sourceBytes j.sources)

/-- The STATUS snapshot (section 10.4.7). -/
def statusResults (p : Part) : List Byte :=
  samplerStatus p ++ rangeStatus p ++ lineStatus p ++ detectorStatus p ++ offerStatus p ++
    p.plans.toList.map (fun pl => pl.state.toByte) ++ p.slots.toList.flatMap (slotStatus p) ++ memoryStatus p ++
    p.lanes.toList.flatMap laneStatus ++ linkStatus p.lnk ++ jobStatus p

/-! ### Response and report payloads -/

/-- A response payload (section 10.4). -/
def responsePayload (r : Response) : List Byte :=
  r.code :: r.status.toByte :: r.results

/-- The kind code of a report (section 10.5). -/
def reportKind : Report → Byte
  | .resetDone _ => 0x01
  | .linkError _ _ => 0x02
  | .jobDropped _ _ _ _ => 0x03
  | .jobExpired _ _ _ => 0x04
  | .planState _ _ _ _ => 0x05
  | .recordSealed _ _ _ _ _ => 0x06
  | .recordAbandoned _ _ _ => 0x07
  | .laneHalted _ _ _ _ _ => 0x08
  | .rangeChanged _ _ _ _ => 0x09
  | .rangeSettled _ _ _ => 0x0A
  | .samplerStopped _ => 0x0B

/-- The body of a report (section 10.5, R177). -/
def reportBody : Report → List Byte
  | .resetDone cause => [cause.toByte]
  | .linkError cause tag => cause.toByte :: present 1 (tag.map (fun t => [t]))
  | .jobDropped plan tick sources reason =>
    byteOf plan.val :: (tickBytes tick ++ sourceBytes sources ++ [reason.toByte])
  | .jobExpired plan tick reason => byteOf plan.val :: (tickBytes tick ++ [reason.toByte])
  | .planState plan state halt removed => [byteOf plan.val, state.toByte, planHaltByte halt, byteOf removed]
  | .recordSealed id plan lane flags words =>
    leBytes 2 id ++ [byteOf plan.val, byteOf lane.val, flagsByte flags] ++ leBytes 4 words
  | .recordAbandoned lane id reached => byteOf lane.val :: (leBytes 2 id ++ leBytes 2 reached)
  | .laneHalted lane reason seq packet retries =>
    [byteOf lane.val, laneHaltByte (some reason), byteOf seq.val] ++
      leBytes 2 ((packet.map Prod.fst).getD 0) ++ leBytes 2 ((packet.map Prod.snd).getD 0) ++ [byteOf retries]
  | .rangeChanged channel oldRange newRange once =>
    [byteOf channel.val, byteOf oldRange, byteOf newRange, boolByte once]
  | .rangeSettled channel range outcome => [byteOf channel.val, byteOf range, outcome.toByte]
  | .samplerStopped lastTick => 0 :: tickBytes lastTick

/-- A report payload: kind, lost count carried, body (R177). -/
def reportPayload (q : QueuedReport) : List Byte :=
  reportKind q.report :: byteOf q.lost :: reportBody q.report

/-! ### Packets (sections 10.6 and 10.7) -/

/-- The marks byte of a DATA frame (R178). -/
def marksByte (seq : Fin 2) (resync final : Bool) : Byte :=
  byteOf seq.val ||| (if resync then 2 else 0) ||| (if final then 4 else 0)

/-- The payload of a DATA frame: the 10-byte DATA header, then the packet's bytes (R178). -/
def dataPayload (lane : Fin 2) (ln : Lane) (k : Packet) : List Byte :=
  [byteOf lane.val, marksByte ln.seq ln.resync (k.index + 1 == k.total)] ++ leBytes 2 k.recordId ++ leBytes 2 k.index ++
    leBytes 2 k.total ++ leBytes 2 k.valid ++ k.bytes

/-- The packet data size P of a lane: 64 × k bytes (R81). -/
def packetSize (c : LaneConfig) : Nat :=
  64 * c.k

/-- The number of data packets of a record: ceil(2 × word count / P) (R85). -/
def dataPackets (words size : Nat) : Nat :=
  (2 * words + size - 1) / size

/-- The total packets of a delivery (R85). -/
def totalPackets (words size : Nat) : Nat :=
  dataPackets words size + 1

/-- The valid byte count of data packet i (R86). -/
def validBytes (words size i : Nat) : Nat :=
  if i < dataPackets words size then size else 2 * words - (i - 1) * size

/-- The bytes of data packet i: the record's stream bytes, then zeros up to a multiple of 32 (R85, R86). -/
def dataPacketBytes (blocks : Memory) (r : Record) (size i : Nat) : List Byte :=
  let v := validBytes r.words size i
  (List.range v).map (fun j => streamByte blocks r.chain ((i - 1) * size + j)) ++
    List.replicate ((v + 31) / 32 * 32 - v) 0

/-- One range segment in the header packet. -/
def segmentBytes (s : Segment) : List Byte :=
  leBytes 3 s.frame ++ [rangeByte s.range]

/-- The header packet of a record (section 10.7, R87, R179). -/
def headerBytes (r : Record) (size total : Nat) : List Byte :=
  leBytes 2 r.id ++ [byteOf r.plan.val, byteOf r.lane.val] ++ sourceBytes r.sources ++ tickBytes r.tick ++
    leBytes 2 r.preRequested ++ leBytes 2 r.preStored ++ leBytes 2 r.postRequested ++ leBytes 2 r.postStored ++
    [byteOf r.decimation, r.channels] ++ leBytes 4 r.frames ++ leBytes 4 r.words ++
    [flagsByte r.flags, byteOf r.deliveries] ++ leBytes 2 size ++ leBytes 2 total ++
    r.segments.flatMap (fun segs => byteOf segs.length :: segs.flatMap segmentBytes)

end Sys2Proof.Machine
end

