-- ==== Sys2Proof/Machine/Staging.lean ====
section
/-!
DEFINITION. DLV's delivery queue and staging (sections 5.2 and 5.4): the hand-off of a record to its lane, the beginning and the
end of a staging.
-/

namespace Sys2Proof.Machine

/-- The packet a buffer holds or is filling. -/
def Buffer.packet : Buffer → Option Packet
  | .empty => none
  | .filling k => some k
  | .holding k => some k

/-- The buffer HOLDS a packet. -/
def Buffer.holds : Buffer → Bool
  | .holding _ => true
  | .filling _ => false
  | .empty => false

/-- The spare buffer of a lane, the one s does not name (R81). -/
def Lane.spare (ln : Lane) : Fin 2 :=
  1 - ln.seq

/-- The buffer into which a staging may begin (R88): the send buffer when it is EMPTY and nothing is awaiting; the spare buffer
when it is EMPTY and the send buffer holds the awaiting packet. -/
def stagingTarget (ln : Lane) : Option (Fin 2) :=
  match ln.awaiting with
  | none => if ln.buffers[ln.seq] = .empty then some ln.seq else none
  | some a =>
    if a.buffer = ln.seq ∧ ln.buffers[ln.seq].holds = true ∧ ln.buffers[ln.spare] = .empty then some ln.spare else none

/-- The packet of a record's delivery with an index, as its staging begins: a header is composed at once from the record as it
stands (R179); a data packet's bytes come at the end of the staging (R89). -/
def stagedPacket (r : Record) (size total index : Nat) : Packet :=
  if index = 0 then
    let bytes := headerBytes r size total
    { recordId := r.id, index := 0, total := total, valid := bytes.length, bytes := bytes }
  else
    { recordId := r.id, index := index, total := total, valid := validBytes r.words size index, bytes := [] }

/-- The current record has a packet to stage (R88). -/
def currentDue (ln : Lane) : Option Current :=
  match ln.current with
  | some c => if c.next < c.total then some c else none
  | none => none

/-- A staging of the current record's next packet begins in a buffer (R84, R88). A header staged again after a cleared halt
changes neither the record nor its delivery count (R117). -/
def stageCurrent (l b : Fin 2) (c : Current) (r : Record) (p : Part) : Part :=
  modifyLane l (fun ln =>
    { ln with
      buffers := ln.buffers.set b.val (.filling (stagedPacket r (packetSize ln.config) c.total c.next))
      current := some { c with next := c.next + 1 } }) p

/-- A SEALED record as it becomes current: SENDING, its delivery count raised (R84, R10). -/
def recordSending (r : Record) : Record :=
  { r with state := .sending, deliveries := satInc 255 r.deliveries }

/-- A staging of the header of the record at the head of the delivery queue begins in a buffer (R84, R88). -/
def stageHead (l b : Fin 2) (r : Record) (p : Part) : Part :=
  let r' := recordSending r
  modifyLane l (fun ln =>
    let total := totalPackets r.words (packetSize ln.config)
    { ln with
      queue := ln.queue.tail
      buffers := ln.buffers.set b.val (.filling (stagedPacket r' (packetSize ln.config) total 0))
      current := some { recordId := r.id, total := total, next := 1 } })
    (modifyRecord r.id recordSending p)

/-- The lane checks whether a staging can begin, and begins it (R88). -/
def beginStaging (l : Fin 2) (p : Part) : Part :=
  let ln := p.lanes[l]
  match stagingTarget ln with
  | none => p
  | some b =>
    match currentDue ln with
    | some c =>
      match findRecord p c.recordId with
      | some r => stageCurrent l b c r p
      | none => p
    | none =>
      match ln.queue with
      | [] => p
      | id :: _ =>
        match findRecord p id with
        | some r => stageHead l b r p
        | none => p

/-- A record joins the tail of its lane's delivery queue, and the lane checks its staging (R83, R88). -/
def handOff (l : Fin 2) (id : Nat) (p : Part) : Part :=
  beginStaging l (modifyLane l (fun ln => { ln with queue := ln.queue ++ [id] }) p)

/-- A packet whole in its buffer: a data packet's bytes have been read from the record's chain (R89). -/
def filledPacket (p : Part) (size : Nat) (k : Packet) : Packet :=
  if k.index = 0 then k
  else
    match findRecord p k.recordId with
    | some r => { k with bytes := dataPacketBytes p.blocks r size k.index }
    | none => k

/-- The lane after a staging has ended in buffer `b` with packet `k` (R89): READY if it was IDLE with nothing awaiting and the
buffer is the send buffer; any other lane keeps its state. -/
def stagedLane (b : Fin 2) (k : Packet) (ln : Lane) : Lane :=
  { ln with
    buffers := ln.buffers.set b.val (.holding k)
    state := if b = ln.seq ∧ ln.state = .idle ∧ ln.awaiting = none then .ready else ln.state }

/-- STAGING_END (R89). A buffer that is not FILLING has no staging to end. -/
def endStaging (l b : Fin 2) (p : Part) : Part :=
  match p.lanes[l].buffers[b] with
  | .filling k =>
    beginStaging l (modifyLane l (stagedLane b (filledPacket p (packetSize p.lanes[l].config) k)) p)
  | .holding _ => p
  | .empty => p

end Sys2Proof.Machine
end

