-- ==== Sys2Proof/Machine/Capture.lean ====
section
/-!
DEFINITION. CAP's windows (Chapter 4): the re-examination of the Pending Job Queue, the open, the catch-up copy, the storing of
frames, the seal, and the expiry of jobs.
-/

namespace Sys2Proof.Machine

/-! ### Range segments (R69, R142) -/

/-- The range in effect at a tick, absent where unknown (R142). -/
def rangeAt (c : Channel) (t : Nat) : Option Nat :=
  match (c.log.filter (fun e => decide (e.tick ≤ t))).getLast? with
  | some e => some e.range
  | none => if c.baseTick ≤ t then some c.baseRange else none

/-- A segment added after those before it; one with the same first frame takes the earlier one's place (R69). -/
def addSegment (segs : List Segment) (s : Segment) : List Segment :=
  match segs.getLast? with
  | some last => if last.frame = s.frame then segs.dropLast ++ [s] else segs ++ [s]
  | none => [s]

/-- The segments that the log entries later than the window's first tick add, in order (R69). -/
def laterSegments (first d frames : Nat) (log : List LogEntry) : List Segment :=
  (log.filter (fun e => decide (first < e.tick))).filterMap (fun e =>
    let index := (e.tick - first + (d - 1)) / d
    if index < frames then some { frame := index, range := some e.range } else none)

/-- The range segments of one channel at an open (R69). -/
def channelSegments (c : Channel) (first d frames : Nat) : List Segment :=
  (laterSegments first d frames c.log).foldl addSegment [{ frame := 0, range := rangeAt c first }]

/-! ### The open (section 4.5) -/

/-- The actual pre length (R66): the largest multiple of d that is no greater than the plan's pre length and reaches back no
further than the oldest retained tick. -/
def actualPre (d pre t oldest : Nat) : Nat :=
  min pre (t - oldest) / d * d

/-- The lock count of each channel of a set raised by 1 (R68). -/
def raiseLocks (set : ChannelSet) (p : Part) : Part :=
  (channelList set).foldl (fun p c => modifyChannel c (fun ch => { ch with lockCount := ch.lockCount + 1 }) p) p

/-- The lock count of each channel of a set lowered by 1 (R68). -/
def lowerLocks (set : ChannelSet) (p : Part) : Part :=
  (channelList set).foldl (fun p c => modifyChannel c (fun ch => { ch with lockCount := ch.lockCount - 1 }) p) p

/-- The record that an open creates (R9, R67). -/
def newRecord (p : Part) (j : Job) (d : PlanDef) (pre id : Nat) (chain : List Nat) : Record :=
  let first := j.tick - pre
  let frames := (pre + d.post) / d.decimation
  let segments := (channelList d.channels).map (fun c => channelSegments p.channels[c] first d.decimation frames)
  { id := id, plan := j.plan, lane := d.lane, retain := d.retain, sources := j.sources, tick := j.tick,
    preRequested := d.pre, preStored := pre, postRequested := d.post, decimation := d.decimation,
    channels := d.channels, segments := segments, state := .opened, postStored := 0, frames := 0, words := 0,
    flags := openFlags d.pre pre segments, chain := chain, deliveries := 0 }

/-- The window that an open puts into its slot (R65, R67). -/
def newWindow (j : Job) (d : PlanDef) (pre id : Nat) : Window :=
  { recordId := id, plan := j.plan, tick := j.tick, first := j.tick - pre, last := j.tick + d.post - 1,
    decimation := d.decimation, channels := d.channels, copyPos := j.tick - pre, phase := .copying, clipped := false }

/-- The open event of a job into a slot (R67): the reservation of `blocks` blocks leaves the head of the free list (R2), the
record is created with the next record ID, the slot is taken, the plan's OPEN record set, the locks raised. -/
def openWindow (w : Fin 4) (j : Job) (d : PlanDef) (pre blocks : Nat) (p : Part) : Part :=
  let id := nextRecordId p
  let r := newRecord p j d pre id (p.freeList.take blocks)
  let p := { p with
    jobs := p.jobs.erase j
    freeList := p.freeList.drop blocks
    records := p.records ++ [r]
    nextId := advanceId id }
  setSlot w (some (newWindow j d pre id))
    (modifyPlan j.plan (fun pl => { pl with openRecord := some id }) (raiseLocks d.channels p))

/-- The lowest-numbered free window slot (R65). -/
def freeSlot (p : Part) : Option (Fin 4) :=
  allSlots.find? (fun w => p.slots[w].isNone)

/-- A job may be chosen by a re-examination: it is eligible (R60) and its trigger tick is held in history (R62). -/
def jobReady (p : Part) (j : Job) : Bool :=
  p.plans[j.plan].openRecord.isNone && heldInHistory p j.tick

/-- What one round of a re-examination opens, if anything (R62 steps 1 to 3): the slot, the job, its plan's definition, pre', and
the reservation in blocks. -/
def nextOpen (p : Part) : Option (Fin 4 × Job × PlanDef × Nat × Nat) :=
  match freeSlot p, p.jobs.find? (jobReady p), oldestRetained p with
  | some w, some j, some oldest =>
    match p.plans[j.plan].definition with
    | some d =>
      let pre := actualPre d.decimation d.pre j.tick oldest
      let blocks := blocksFor (recordWords (channelList d.channels).length pre d.post d.decimation)
      if p.records.length < Config.recordSlots ∧ blocks ≤ p.freeList.length then some (w, j, d, pre, blocks) else none
    | none => none
  | _, _, _ => none

/-- At most `n` rounds of a re-examination (R62). -/
def reexamineFor : Nat → Part → Part
  | 0, p => p
  | n + 1, p =>
    match nextOpen p with
    | some (w, j, d, pre, blocks) => reexamineFor n (openWindow w j d pre blocks p)
    | none => p

/-- A re-examination of the Pending Job Queue (R61, R62). Every open takes one of the four window slots, so four rounds do. -/
def reexamine (p : Part) : Part :=
  reexamineFor Config.windowSlots p

/-- A record freed, with the re-examination that follows (R13). -/
def freeAndReexamine (id : Nat) (p : Part) : Part :=
  reexamine (freeRecord id p)

/-! ### Storing frames (R70, R71) -/

/-- The record after one frame of `codes` has been stored at a tick (R10, R71). -/
def recordWithFrame (w : Window) (tick : Nat) (codes : List SampleCode) (r : Record) : Record :=
  { r with
    frames := r.frames + 1
    words := r.words + codes.length
    postStored := if w.tick ≤ tick then r.postStored + w.decimation else r.postStored }

/-- One sample frame stored into a window's record, its words at the end of those stored before (R3, R71). -/
def storeFrame (slot : Fin 4) (w : Window) (tick : Nat) (codes : List SampleCode) (p : Part) : Part :=
  match findRecord p w.recordId with
  | some r =>
    setSlot slot (some { w with clipped := w.clipped || codes.any isEndCode })
      (modifyRecord w.recordId (recordWithFrame w tick codes)
        { p with blocks := storeWords r.chain r.words codes p.blocks })
  | none => p

/-- A tick is aligned for a window: its distance from T is a multiple of d; the first tick's is (R66, R70). -/
def aligned (w : Window) (tick : Nat) : Bool :=
  decide (w.first ≤ tick) && (tick - w.first) % w.decimation == 0

/-- The next aligned tick at or after the copy position. -/
def nextAligned (w : Window) : Nat :=
  w.first + (w.copyPos - w.first + (w.decimation - 1)) / w.decimation * w.decimation

/-- The aligned tick that the catch-up copy can read next: one that has been sampled and belongs to the window. -/
def copyDue (p : Part) (w : Window) : Option Nat :=
  match p.smp.newest with
  | some newest => if nextAligned w ≤ newest ∧ nextAligned w ≤ w.last then some (nextAligned w) else none
  | none => none

/-- The codes of a window's channels at a tick, read from history (R70). -/
def historyFrame (p : Part) (w : Window) (tick : Nat) : List SampleCode :=
  (channelList w.channels).map (fun c => historyCode p c tick)

/-- One sample frame copied out of history, and the copy position advanced past its tick (R70). -/
def copyFrame (slot : Fin 4) (p : Part) : Part :=
  match p.slots[slot] with
  | some w =>
    if w.phase = .copying then
      match copyDue p w with
      | some t => storeFrame slot { w with copyPos := t + 1 } t (historyFrame p w t) p
      | none => p
    else p
  | none => p

/-- COPY_END (R70): with no aligned tick left to read, the window moves to ENDED if its last tick has been sampled (R72), else
to LIVE. -/
def endCopy (slot : Fin 4) (p : Part) : Part :=
  match p.slots[slot], p.smp.newest with
  | some w, some newest =>
    if w.phase = .copying ∧ copyDue p w = none then
      setSlot slot (some { w with phase := if w.last ≤ newest then .ended else .live }) p
    else p
  | _, _ => p

/-- What the copy does before a tick is sampled that would overwrite the next aligned tick it has to read: it reads that tick
first, because the copy reads history faster than the Sampler adds to it (R70; assumption 8). -/
def copyBeforeLoss (tick : Nat) (slot : Fin 4) (p : Part) : Part :=
  match p.slots[slot] with
  | some w => if nextAligned w + Config.historyDepth ≤ tick then copyFrame slot p else p
  | none => p

/-- What a LIVE window takes of a tick event (R71, R72): its frame if the tick is aligned, and the move to ENDED at the window's
last tick. -/
def liveTick (tick : Nat) (codes : Vector SampleCode 8) (slot : Fin 4) (p : Part) : Part :=
  match p.slots[slot] with
  | some w =>
    if w.phase = .live ∧ tick ≤ w.last then
      let w' := if tick = w.last then { w with phase := .ended } else w
      if aligned w tick then storeFrame slot w' tick ((channelList w.channels).map (fun c => codes[c])) p
      else setSlot slot (some w') p
    else p
  | none => p

/-! ### The seal (section 4.6) -/

/-- The segments that a seal before the end keeps: the first, and those that begin at a stored frame (R74). -/
def trimSegments (frames : Nat) : List Segment → List Segment
  | [] => []
  | first :: rest => first :: rest.filter (fun s => decide (s.frame < frames))

/-- The record as a seal leaves it, before its chain is trimmed (R73 step 1, R74, R75). -/
def sealedRecord (w : Window) (r : Record) : Record :=
  let early := decide (w.phase ≠ .ended)
  { r with
    state := .sealed
    flags := sealFlags r.flags early w.clipped
    segments := if early then r.segments.map (trimSegments r.frames) else r.segments }

/-- Steps 1 to 6 of a seal (R73). -/
def sealRecord (slot : Fin 4) (w : Window) (p : Part) : Part :=
  let p := trimChain w.recordId (modifyRecord w.recordId (sealedRecord w) p)
  let p := lowerLocks w.channels p
  let p := modifyPlan w.plan (fun pl => { pl with openRecord := none }) (setSlot slot none p)
  match findRecord p w.recordId with
  | some r => handOff r.lane r.id (postReport (.recordSealed r.id r.plan r.lane r.flags r.words) p)
  | none => p

/-- A seal, whatever its cause (R73). `completes` is false for a seal caused by PLAN_STOP ABORT or a stop of the Sampler, whose
step 7 does not move the plan to DONE. -/
def sealWindow (completes : Bool) (slot : Fin 4) (p : Part) : Part :=
  match p.slots[slot] with
  | some w =>
    let p := sealRecord slot w p
    reexamine (if completes then planDoneIfIdle w.plan p else p)
  | none => p

/-- WINDOW_SEAL (R72, R73): the seal that completes an ENDED window. -/
def sealEnded (slot : Fin 4) (p : Part) : Part :=
  match p.slots[slot] with
  | some w => if w.phase = .ended then sealWindow true slot p else p
  | none => p

/-! ### Expiry (section 4.3) -/

/-- A job leaves the queue with its JOB_EXPIRED report, and the plan's expired counter counts it (R63, R39). -/
def expireJob (reason : ExpiryReason) (j : Job) (p : Part) : Part :=
  postReport (.jobExpired j.plan j.tick reason)
    (modifyPlan j.plan (fun pl =>
      { pl with counters := { pl.counters with expired := count16 pl.counters.expired } })
      { p with jobs := p.jobs.erase j })

/-- The pending jobs whose trigger tick has left history (R63), in queue order. -/
def expiredJobs (p : Part) : List Job :=
  match oldestRetained p with
  | some oldest => p.jobs.filter (fun j => decide (j.tick < oldest))
  | none => []

/-- JOB_EXPIRY (R63): each such job in queue order, followed by its plan's move to DONE where it comes to that; then the
re-examination. With no such job there is no expiry. -/
def expireByHistory (p : Part) : Part :=
  match expiredJobs p with
  | [] => p
  | j :: js => reexamine ((j :: js).foldl (fun p j => planDoneIfIdle j.plan (expireJob .history j p)) p)

end Sys2Proof.Machine
end

