-- ==== Sys2Proof/Machine/Delivery.lean ====
section
/-!
DEFINITION. The delivery lanes (Chapters 5 and 6): transmission, verdicts, timers, halts, abandon, LANE_CLEAR_HALT and a lane's part
of RESET FLUSH.
-/

namespace Sys2Proof.Machine

/-- A copy of a packet of the lane is in flight. -/
def Lane.inFlight (ln : Lane) : Bool :=
  decide (ln.state = .sending)

/-- READY if the send buffer HOLDS a packet, otherwise IDLE (R91, R92, R96). -/
def restState (ln : Lane) : LaneState :=
  if ln.buffers[ln.seq].holds then .ready else .idle

/-- A buffer emptied: at once, or, if its packet is in flight, at that frame's completion (R91). -/
def emptyBuffer (b : Fin 2) (ln : Lane) : Lane :=
  if ln.inFlight then { ln with releasing := some b }
  else { ln with buffers := ln.buffers.set b.val .empty }

/-! ### Transmission (section 5.5) -/

/-- The lane at the start of a data frame for packet `k` of its send buffer (R90): its first transmission, or a resend. -/
def transmittedLane (k : Packet) (ln : Lane) : Lane :=
  match ln.awaiting with
  | none =>
    { ln with
      state := .sending
      awaiting := some { recordId := k.recordId, index := k.index, buffer := ln.seq }
      counters := { ln.counters with transmissions := count16 ln.counters.transmissions } }
  | some _ =>
    { ln with
      state := .sending
      counters := { ln.counters with
        transmissions := count16 ln.counters.transmissions, resends := count16 ln.counters.resends } }

/-- The packet that the arbiter may start for a lane (R82): that of the send buffer of a READY lane. -/
def readyPacket (ln : Lane) : Option Packet :=
  if ln.state = .ready then
    match ln.buffers[ln.seq] with
    | .holding k => some k
    | .filling _ => none
    | .empty => none
  else none

/-- The lane's part of a frame start (R90). -/
def startLane (l : Fin 2) (k : Packet) (p : Part) : Part :=
  beginStaging l (modifyLane l (transmittedLane k) p)

/-! ### Halting (section 6.4) -/

/-- The awaiting packet as a LANE_HALTED report names it. -/
def awaitingName (ln : Lane) : Option (Nat × Nat) :=
  ln.awaiting.map (fun a => (a.recordId, a.index))

/-- A lane's move into HALTED with its LANE_HALTED report (R109, R115): both timers stop. -/
def haltLane (l : Fin 2) (reason : LaneHalt) (p : Part) : Part :=
  let ln := p.lanes[l]
  postReport (.laneHalted l reason ln.seq (awaitingName ln) ln.retries)
    (modifyLane l (fun ln =>
      { ln with state := .halted, halt := some reason, haltNoted := false, ackTimer := none, backoffTimer := none }) p)

/-! ### Completion of a frame (R91, R110) -/

/-- The buffer that was emptied in flight becomes EMPTY. -/
def releaseBuffer (ln : Lane) : Lane :=
  match ln.releasing with
  | some b => { ln with buffers := ln.buffers.set b.val .empty, releasing := none }
  | none => ln

/-- The lane after its data frame completes with no halt noted (R91): AWAITING with the ack timer started while its packet still
awaits a verdict; IDLE after a RESET FLUSH (R102); otherwise the state its send buffer gives. -/
def completedLane (ln : Lane) : Lane :=
  match ln.awaiting with
  | some _ => { ln with state := .awaiting, ackTimer := some ln.config.ackTimeout, flushed := false }
  | none => { ln with state := if ln.flushed then .idle else restState ln, flushed := false }

/-- The lane's part of the completion of its data frame (R91, R110). -/
def completeLane (l : Fin 2) (p : Part) : Part :=
  if p.lanes[l].state = .sending then
    let p := modifyLane l releaseBuffer p
    beginStaging l (if p.lanes[l].haltNoted then haltLane l .host p else modifyLane l completedLane p)
  else p

/-! ### Acceptance (R92, R93, R106) -/

/-- The packet is its record's final packet: its index is total packets - 1 (R85). -/
def Packet.final (k : Packet) : Bool :=
  k.index + 1 == k.total

/-- Steps 1 and 2 of an acceptance (R92). -/
def settledLane (a : Awaiting) (ln : Lane) : Lane :=
  { emptyBuffer a.buffer ln with
    ackTimer := none, backoffTimer := none, retries := 0, resync := false, awaiting := none }

/-- Steps 4 and 5 of an acceptance (R92): s flips, and the lane takes its next state. -/
def flippedLane (ln : Lane) : Lane :=
  let ln := { ln with seq := ln.spare }
  { ln with state := if ln.inFlight then .sending else restState ln }

/-- A lane whose record has left it is no longer the record's current lane (R93). -/
def dropCurrent (id : Nat) (ln : Lane) : Lane :=
  { ln with current := if ln.current.any (fun c => c.recordId == id) then none else ln.current }

/-- The completion of a delivery (R93): counted, the record leaves the lane, and it is DELIVERED if retain is yes, freed if no. -/
def completeDelivery (l : Fin 2) (id : Nat) (p : Part) : Part :=
  let p := modifyLane l (fun ln =>
    { dropCurrent id ln with counters := { ln.counters with completed := count16 ln.counters.completed } }) p
  match findRecord p id with
  | some r =>
    if r.retain then modifyRecord id (fun r => { r with state := .delivered }) p else freeAndReexamine id p
  | none => p

/-- The awaiting packet is the final packet of its record. -/
def awaitingFinal (ln : Lane) (a : Awaiting) : Bool :=
  (ln.buffers[a.buffer].packet).any Packet.final

/-- An acceptance of the awaiting packet, steps 1 to 6 (R92). -/
def acceptPacket (l : Fin 2) (a : Awaiting) (p : Part) : Part :=
  let final := awaitingFinal p.lanes[l] a
  let p := modifyLane l (settledLane a) p
  let p := if final then completeDelivery l a.recordId p else p
  beginStaging l (modifyLane l flippedLane p)

/-! ### Retries, holds and halts (R107 to R110) -/

/-- A retry of an AWAITING lane (R107). -/
def retryLane (l : Fin 2) (p : Part) : Part :=
  let p := modifyLane l (fun ln => { ln with ackTimer := none, retries := ln.retries + 1 }) p
  if p.lanes[l].config.retryLimit < p.lanes[l].retries then haltLane l .retryLimit p
  else modifyLane l (fun ln => { ln with state := .ready }) p

/-- A HOLD of an AWAITING lane (R108). -/
def heldLane (ln : Lane) : Lane :=
  { ln with state := .backoff, ackTimer := none, backoffTimer := some ln.config.backoffInterval }

/-- A stale ACK only counts (R104). -/
def staleAck (l : Fin 2) (p : Part) : Part :=
  modifyLane l (fun ln => { ln with counters := { ln.counters with stale := count16 ln.counters.stale } }) p

/-- The awaiting packet that an ACK with a sequence bit matches (R103): its record is live and the bit equals s. -/
def matchedPacket (p : Part) (l : Fin 2) (seq : Fin 2) : Option Awaiting :=
  match p.lanes[l].awaiting with
  | some a => if (findRecord p a.recordId).isSome ∧ p.lanes[l].seq = seq then some a else none
  | none => none

/-- The effect of a matching ACK in each lane state (R105). -/
def verdictEffect (l : Fin 2) (a : Awaiting) (v : Verdict) (p : Part) : Part :=
  match p.lanes[l].state, v with
  | .awaiting, .accept => acceptPacket l a p
  | .awaiting, .retry => retryLane l p
  | .awaiting, .hold => modifyLane l heldLane p
  | .awaiting, .halt => haltLane l .host p
  | .backoff, .accept => acceptPacket l a p
  | .backoff, .halt => haltLane l .host p
  | .ready, .accept => acceptPacket l a p
  | .ready, .halt => haltLane l .host p
  | .sending, .accept => if p.lanes[l].haltNoted then staleAck l p else acceptPacket l a p
  | .sending, .halt =>
    if p.lanes[l].haltNoted then staleAck l p else modifyLane l (fun ln => { ln with haltNoted := true }) p
  | .backoff, .retry => staleAck l p
  | .backoff, .hold => staleAck l p
  | .ready, .retry => staleAck l p
  | .ready, .hold => staleAck l p
  | .sending, .retry => staleAck l p
  | .sending, .hold => staleAck l p
  | .halted, _ => staleAck l p
  | .idle, _ => staleAck l p

/-- An ACK taken by the lane it names (R103, R104). -/
def takeAck (lane seq verdict : Byte) (p : Part) : Part :=
  let l := ackLane lane
  match matchedPacket p l (ackSeq seq) with
  | some a => verdictEffect l a (ackVerdict verdict) p
  | none => staleAck l p

/-! ### Timers (section 6.3) -/

/-- The ack timer expires in AWAITING: a retry (R111). A stopped timer does not expire. -/
def ackExpiry (l : Fin 2) (p : Part) : Part :=
  if p.lanes[l].state = .awaiting ∧ p.lanes[l].ackTimer.isSome then retryLane l p else p

/-- The backoff timer expires in BACKOFF: READY with a resend due (R112). -/
def backoffExpiry (l : Fin 2) (p : Part) : Part :=
  if p.lanes[l].state = .backoff ∧ p.lanes[l].backoffTimer.isSome then
    modifyLane l (fun ln => { ln with state := .ready, backoffTimer := none }) p
  else p

/-! ### Abandon (section 5.7) -/

/-- The lane state after an abandon of the awaiting packet's record (R96). -/
def abandonState (ln : Lane) : LaneState :=
  match ln.state with
  | .idle => .idle
  | .sending => .sending
  | .halted => .halted
  | .ready => restState ln
  | .awaiting => restState ln
  | .backoff => restState ln

/-- A buffer emptied if it holds or is filling a packet of the record (R94 step 2). -/
def dropFrom (id : Nat) (b : Fin 2) (ln : Lane) : Lane :=
  if (ln.buffers[b].packet).any (fun k => k.recordId == id) then { ln with buffers := ln.buffers.set b.val .empty } else ln

/-- The lane after steps 1 to 6 and 8 of an abandon whose packet is the awaiting one (R94). -/
def abandonedAwaiting (id : Nat) (a : Awaiting) (ln : Lane) : Lane :=
  let ln := dropFrom id ln.spare { emptyBuffer a.buffer ln with awaiting := none }
  let ln := dropCurrent id
    { ln with ackTimer := none, backoffTimer := none, retries := 0, seq := ln.spare, resync := true }
  { ln with state := abandonState ln }

/-- The buffer that holds or is filling a record's first packet not yet accepted: not the one whose packet is in flight and
already settled (R95). -/
def withdrawnBuffer (id : Nat) (ln : Lane) : Option (Fin 2) :=
  ([0, 1] : List (Fin 2)).find? (fun b =>
    decide (ln.releasing ≠ some b) && (ln.buffers[b].packet).any (fun k => k.recordId == id))

/-- The lane after an abandon of a record that has no awaiting packet (R95). -/
def abandonedUnsent (id : Nat) (b : Option (Fin 2)) (ln : Lane) : Lane :=
  match b with
  | some b =>
    dropCurrent id { ln with
      buffers := ln.buffers.set b.val .empty
      resync := true
      state := if ln.state = .ready ∧ b = ln.seq then .idle else ln.state }
  | none => dropCurrent id { ln with resync := true }

/-- The packet index reached by a record that has no awaiting packet (R96). -/
def unsentIndex (ln : Lane) (b : Option (Fin 2)) : Nat :=
  match b with
  | some b => ((ln.buffers[b].packet).map (fun k => k.index)).getD 0
  | none => 0

/-- A lane abandons a SENDING record (R94, R95, R96). -/
def abandonRecord (l : Fin 2) (id : Nat) (p : Part) : Part :=
  let ln := p.lanes[l]
  match ln.awaiting.filter (fun a => a.recordId == id) with
  | some a =>
    beginStaging l (postReport (.recordAbandoned l id a.index) (modifyLane l (abandonedAwaiting id a) p))
  | none =>
    let b := withdrawnBuffer id ln
    beginStaging l (postReport (.recordAbandoned l id (unsentIndex ln b)) (modifyLane l (abandonedUnsent id b) p))

/-! ### LANE_CLEAR_HALT (section 6.5) -/

/-- The buffer of the resume packet (R117): the awaiting packet's, otherwise the send buffer if it holds or is filling one. -/
def resumeBuffer (ln : Lane) : Option (Fin 2) :=
  match ln.awaiting with
  | some a => some a.buffer
  | none => if ln.buffers[ln.seq] = .empty then none else some ln.seq

/-- The two buffers exchange names if the resume packet lies in B1 (R117). -/
def exchangedLane (ln : Lane) : Lane :=
  if resumeBuffer ln = some 1 then
    { ln with
      buffers := #v[ln.buffers[1], ln.buffers[0]]
      awaiting := ln.awaiting.map (fun a => { a with buffer := 0 }) }
  else ln

/-- B1's content dropped, and the next staging index of the current record set back to the dropped packet's (R117). -/
def droppedSpare (ln : Lane) : Lane :=
  match ln.buffers[1].packet with
  | some k =>
    { ln with
      buffers := ln.buffers.set 1 .empty
      current := ln.current.map (fun c => if c.recordId = k.recordId then { c with next := k.index } else c) }
  | none => ln

/-- The lane after steps 1 to 5 of LANE_CLEAR_HALT (R116, R117). -/
def clearedLane (ln : Lane) : Lane :=
  let ln := droppedSpare (exchangedLane ln)
  let ln := { ln with halt := none, seq := 0, resync := true, retries := 0 }
  { ln with state := restState ln }

/-- LANE_CLEAR_HALT's event at a HALTED lane (R116). -/
def clearHalt (l : Fin 2) (p : Part) : Part :=
  beginStaging l (modifyLane l clearedLane p)

/-! ### RESET FLUSH (R102) -/

/-- The buffer whose packet is in flight: that of the awaiting packet, or one already emptied. -/
def flightBuffer (ln : Lane) : Option (Fin 2) :=
  if ln.inFlight then
    match ln.awaiting with
    | some a => some a.buffer
    | none => ln.releasing
  else none

/-- A lane's part of RESET FLUSH (R102). -/
def flushedLane (ln : Lane) : Lane :=
  let busy := flightBuffer ln
  { ln with
    state := if ln.inFlight then .sending else .idle
    halt := none, queue := [], current := none, seq := 0, resync := true
    buffers := #v[if busy = some 0 then ln.buffers[0] else .empty, if busy = some 1 then ln.buffers[1] else .empty]
    awaiting := none, releasing := busy, flushed := ln.inFlight, haltNoted := false, retries := 0, ackTimer := none, backoffTimer := none }

end Sys2Proof.Machine
end

