-- ==== Sys2Proof/Machine/Range.lean ====
section
/-!
DEFINITION. RNG (Chapter 8): observation spans, span decisions, the range change log and the ONCE pass.
-/

namespace Sys2Proof.Machine

/-- A new span: position 0, peak 0, clip mark clear (R138). -/
def newSpan (c : Channel) : Channel :=
  { c with spanPos := 0, spanPeak := 0, spanClip := false }

/-- A code taken into the current span, short of its end (R138). -/
def codeIntoSpan (code : SampleCode) (c : Channel) : Channel :=
  { c with
    spanPos := c.spanPos + 1
    spanPeak := max c.spanPeak (magnitude code)
    spanClip := c.spanClip || isEndCode code }

/-- A log entry appended (R141): one with the newest entry's tick replaces its range; a full log first gives up its oldest entry,
which becomes the base range and base tick. -/
def appendEntry (e : LogEntry) (c : Channel) : Channel :=
  match c.log.getLast? with
  | some newest =>
    if newest.tick = e.tick then { c with log := c.log.dropLast ++ [e] }
    else if Config.logEntries ≤ c.log.length then
      match c.log with
      | oldest :: rest =>
        { c with log := rest ++ [e], baseRange := oldest.range, baseTick := oldest.tick }
      | [] => { c with log := [e] }
    else { c with log := c.log ++ [e] }
  | none => { c with log := [e] }

/-- The log entry of a change that takes effect from a tick, if a run can reach that tick (R140, R141). -/
def logChange (tick range : Nat) (c : Channel) : Channel :=
  if tick ≤ Config.lastTick then appendEntry { tick := tick, range := range } c else c

/-- The tick that follows the newest sampled one: the first tick of a span that starts now (R140). -/
def followingTick (p : Part) : Nat :=
  match p.smp.newest with
  | some n => n + 1
  | none => 0

/-- A span decision applied (R140): the range changes from the first tick of the new span, the change is logged, the detector is set
to UNKNOWN and RANGE_CHANGED is posted. -/
def applyRange (ch : Fin 8) (range : Nat) (once : Bool) (p : Part) : Part :=
  let old := p.channels[ch].range
  let tick := followingTick p
  postReport (.rangeChanged ch old range once)
    (detectorUnknown ch (modifyChannel ch (fun c => logChange tick range { c with range := range }) p))

/-- The range that a decision moves to, if it moves (R139). -/
def decidedRange (range : Nat) : SpanDecision → Option Nat
  | .widen => some (range - 1)
  | .narrow => some (range + 1)
  | .keep => none

/-- A ONCE pass ends with an outcome: the mode becomes MANUAL and RANGE_SETTLED is posted (R145, R146). -/
def endPass (ch : Fin 8) (outcome : PassOutcome) (p : Part) : Part :=
  let p := modifyChannel ch (fun c => { c with mode := .manual, counted := none }) p
  postReport (.rangeSettled ch p.channels[ch].range outcome) p

/-- The effect of a span's decision in TRACK (R140, R143). -/
def trackDecision (ch : Fin 8) (d : SpanDecision) (p : Part) : Part :=
  match decidedRange p.channels[ch].range d with
  | some r => if p.channels[ch].lockCount = 0 then applyRange ch r false p else p
  | none => p

/-- The effect of a span's decision in ONCE (R145): with the lock count at 0 the span is counted; keep ends the pass as SETTLED, and a
change is applied and, at the eighth counted span, ends it as LIMIT. -/
def onceDecision (ch : Fin 8) (d : SpanDecision) (p : Part) : Part :=
  if p.channels[ch].lockCount = 0 then
    let n := p.channels[ch].counted.getD 0 + 1
    let p := modifyChannel ch (fun c => { c with counted := some n }) p
    match decidedRange p.channels[ch].range d with
    | none => endPass ch .settled p
    | some r =>
      let p := applyRange ch r true p
      if Config.passLimit ≤ n then endPass ch .limit p else p
  else p

/-- The end of a span whose codes, the last one included, have been taken (R138, R139): evaluated in TRACK and ONCE, and a new span
starts in every mode. -/
def endSpan (ch : Fin 8) (p : Part) : Part :=
  let c := p.channels[ch]
  let d := spanDecision ch c.range c.spanPeak c.spanClip
  let p := modifyChannel ch newSpan p
  match c.mode with
  | .manual => p
  | .track => trackDecision ch d p
  | .once => onceDecision ch d p

/-- RNG takes a code: the one that brings the span to 256 ticks ends it (R138). -/
def takeCode (ch : Fin 8) (code : SampleCode) (p : Part) : Part :=
  let p := modifyChannel ch (codeIntoSpan code) p
  if Config.spanTicks ≤ p.channels[ch].spanPos then endSpan ch p else p

/-- SPAN_END (R139): RNG takes the code that is on its way to it. With none on its way nothing happens. -/
def spanArrival (ch : Fin 8) (p : Part) : Part :=
  match p.channels[ch].arriving with
  | some code => takeCode ch code (modifyChannel ch (fun c => { c with arriving := none }) p)
  | none => p

/-- Every code on its way to RNG is taken, in ascending channel order: RNG takes the code of one tick before the Sampler converts
the next (R140). -/
def settleSpans (p : Part) : Part :=
  allChannels.foldl (fun p ch => spanArrival ch p) p

/-- What RNG takes of a tick event (R125, R138): a code that does not end the span is taken at once; one that would end it is on its
way until SPAN_END takes it. -/
def observeCode (code : SampleCode) (c : Channel) : Channel :=
  if c.spanPos + 1 < Config.spanTicks then codeIntoSpan code c else { c with arriving := some code }

/-- A ONCE pass in progress cancelled with its RANGE_SETTLED report (R146). -/
def cancelPass (ch : Fin 8) (p : Part) : Part :=
  if p.channels[ch].mode = .once then endPass ch .cancelled p else p

/-- What SAMPLING_START does to a channel of RNG (R150). -/
def startChannel (c : Channel) : Channel :=
  newSpan { c with log := [], baseRange := c.range, baseTick := 0 }

end Sys2Proof.Machine
end

