-- ==== Sys2Proof/Machine/Trigger.lean ====
section
/-!
DEFINITION. TRG's sources and offers (Chapter 3) and the plans' judgement of an offer (section 2.6).
-/

namespace Sys2Proof.Machine

/-! ### External lines (section 3.2) -/

/-- A line after its level has become `level` (R42): every edge updates the reference level, an accepted one sets the latch. -/
def edgeOnLine (running level : Bool) (x : ExtLine) : ExtLine :=
  if x.reference = level then { x with level := level }
  else
    { x with
      level := level
      reference := level
      latch := x.latch || (x.enabled && running && edgeMatches x.edge level) }

/-- Every line's latch cleared (R45). -/
def clearLatches (p : Part) : Part :=
  allLines.foldl (fun p l => modifyLine l (fun x => { x with latch := false }) p) p

/-- The external lines that fire at a tick: enabled, with the latch set (R43). -/
def firingLines (p : Part) : SourceSet :=
  allLines.foldl (fun s l => if p.lines[l].enabled && p.lines[l].latch then s ||| extSource l else s) 0

/-- The latches of the enabled lines read and cleared (R43). -/
def readLatches (p : Part) : Part :=
  allLines.foldl (fun p l => modifyLine l (fun x => { x with latch := x.latch && !x.enabled }) p) p

/-! ### Level detectors (section 3.3) -/

/-- A detector judges a code: it is enabled and its channel is in the enabled channel set (R46). -/
def detectorJudges (p : Part) (ch : Fin 8) : Bool :=
  p.detectors[ch].enabled && p.smp.enabled.getLsbD ch.val

/-- A detector fires at a code: a crossing that matches its direction (R47). -/
def detectorFires (d : Detector) (code : SampleCode) : Bool :=
  match (crossing d code).2 with
  | some rising => directionMatches d.direction rising
  | none => false

/-- The level detectors that fire at a tick (R47). -/
def firingDetectors (codes : Vector SampleCode 8) (p : Part) : SourceSet :=
  allChannels.foldl
    (fun s ch => if detectorJudges p ch && detectorFires p.detectors[ch] codes[ch] then s ||| lvlSource ch else s) 0

/-- Every detector that judges a code takes its new state (R47). -/
def judgeDetectors (codes : Vector SampleCode 8) (p : Part) : Part :=
  allChannels.foldl
    (fun p ch =>
      if detectorJudges p ch then modifyDetector ch (fun d => { d with state := (crossing d codes[ch]).1 }) p else p) p

/-! ### Offers (section 3.5) -/

/-- The SOFT mask of a TRIGGER that fires at the next tick sampled (R51): one in execution that has not fired. -/
def softFiring (p : Part) : Option PlanSet :=
  match p.trg.run with
  | some r => if r.firedAt.isNone then some r.mask else none
  | none => none

/-- TRG after it has formed an offer for a tick (R51, R53, R57). -/
def offerFormed (tick : Nat) (sources : SourceSet) (soft : Option PlanSet) (u : TriggerUnit) : TriggerUnit :=
  { run := match u.run, soft with
      | some r, some _ => some { r with firedAt := some tick }
      | run, _ => run
    offerCount := satInc Config.offerCountMax u.offerCount
    lastOffer := some (tick, sources)
    offers := u.offers ++ [{ tick := tick, sources := sources, softMask := soft, unseenBy := 0 }] }

/-- What TRG takes of a tick event (R43, R47, R51, R53): the sources that fire are gathered into one offer, if any fired. -/
def triggerTick (tick : Nat) (codes : Vector SampleCode 8) (p : Part) : Part :=
  let soft := softFiring p
  let sources := firingLines p ||| firingDetectors codes p ||| (if soft.isSome then softSource else 0)
  let p := judgeDetectors codes (readLatches p)
  if sources = 0 then p else { p with trg := offerFormed tick sources soft p.trg }

/-! ### Judging an offer (R36, R37) -/

/-- The sources of an offer as they count for a plan: SOFT only if the plan is in the SOFT mask (R36). -/
def sourcesFor (o : Offer) (i : Fin 8) : SourceSet :=
  if (o.softMask.getD 0).getLsbD i.val then o.sources else o.sources &&& ~~~softSource

/-- An offer is handed to a plan (R36): the plan is RUNNING, was not started after the offer was formed (R27), and watches one of the
offer's sources. -/
def handedTo (p : Part) (o : Offer) (i : Fin 8) : Option PlanDef :=
  match p.plans[i].definition with
  | some d =>
    if p.plans[i].state = .running ∧ o.unseenBy.getLsbD i.val = false ∧ d.sources &&& sourcesFor o i ≠ 0 then some d else none
  | none => none

/-- How a plan judged an offer. -/
inductive Judgement where
  | ignored
  | dropped (reason : DropReason)
  | accepted
  deriving DecidableEq, Repr

/-- The judgement of an offer by a plan it is handed to (R37): the first check that applies decides. -/
def judge (p : Part) (o : Offer) (i : Fin 8) (d : PlanDef) : Judgement :=
  if p.plans[i].lastAccepted.any (fun t => decide (o.tick < t + d.holdoff)) then .ignored
  else if planBusy p i && decide (d.policy = .drop) then .dropped .busy
  else if Config.jobPlaces ≤ p.jobs.length then .dropped .queueFull
  else .accepted

/-- Shots remaining after an acceptance (R28). -/
def takeShot : Shots → Shots
  | .count n => .count (n - 1)
  | .unlimited => .unlimited

/-- A plan after an acceptance at a tick (R37 step 4, R28): at its last shot it moves to DRAINING. -/
def acceptedPlan (tick : Nat) (pl : Plan) : Plan :=
  { pl with
    lastAccepted := some tick
    shots := takeShot pl.shots
    state := if takeShot pl.shots = .count 0 then .draining else pl.state
    counters := { pl.counters with accepted := count16 pl.counters.accepted } }

/-- The effect of a judgement (R37). -/
def applyJudgement (o : Offer) (i : Fin 8) : Judgement → Part → Part
  | .ignored, p =>
    modifyPlan i (fun pl =>
      { pl with counters := { pl.counters with ignoredHoldoff := count16 pl.counters.ignoredHoldoff } }) p
  | .dropped .busy, p =>
    postReport (.jobDropped i o.tick o.sources .busy) (modifyPlan i (fun pl =>
      { pl with counters := { pl.counters with droppedBusy := count16 pl.counters.droppedBusy } }) p)
  | .dropped .queueFull, p =>
    postReport (.jobDropped i o.tick o.sources .queueFull) (modifyPlan i (fun pl =>
      { pl with counters := { pl.counters with droppedFull := count16 pl.counters.droppedFull } }) p)
  | .accepted, p =>
    modifyPlan i (acceptedPlan o.tick) { p with jobs := p.jobs ++ [{ plan := i, sources := o.sources, tick := o.tick }] }

/-- The part as the judgements so far have left it, with the plans that accepted and those that dropped the offer (R52). -/
structure Judged where
  part : Part
  accepted : PlanSet
  dropped : PlanSet

/-- One plan's place in the judgement of an offer (R54). -/
def judgePlan (o : Offer) (acc : Judged) (i : Fin 8) : Judged :=
  match handedTo acc.part o i with
  | none => acc
  | some d =>
    match judge acc.part o i d with
    | .ignored => { acc with part := applyJudgement o i .ignored acc.part }
    | .dropped r =>
      { acc with part := applyJudgement o i (.dropped r) acc.part, dropped := acc.dropped ||| planBit i }
    | .accepted =>
      { acc with part := applyJudgement o i .accepted acc.part, accepted := acc.accepted ||| planBit i }

/-- The judgements of an offer in ascending plan index (R54, R55). -/
def judgeOffer (o : Offer) (p : Part) : Judged :=
  allPlans.foldl (judgePlan o) { part := p, accepted := 0, dropped := 0 }

end Sys2Proof.Machine
end

