-- ==== Sys2Proof/Machine/Sampling.lean ====
section
/-!
DEFINITION. SMP and HIS (Chapter 7): the tick event, and the effects of the start and the stop of the Sampler.
-/

namespace Sys2Proof.Machine

/-! ### Conversion (R127, R136) -/

/-- The full scale at a range, in the input's unit of 10.24 V / 2^30: 10.24 V / 2^range. -/
def fullScale (range : Nat) : Int :=
  2 ^ (30 - range)

/-- One code step at a range, in the input's unit: full scale / 32,768. -/
def codeStep (range : Nat) : Int :=
  2 ^ (15 - range)

/-- The whole number of code steps that an input within the full scale is converted to: exact where it is one, and otherwise one of its
two neighbours, which of them is a free value (assumption 23). -/
def codeSteps (channel : Fin 8) (tick range : Nat) (input : Int) : Int :=
  if input % codeStep range ≠ 0 ∧ Config.roundsUp channel tick range input = true then input / codeStep range + 1
  else input / codeStep range

/-- The code of an input (R127): the voltage scaled to the full scale of the range; an input at or beyond an end of the full scale gives
the end code. -/
def convert (channel : Fin 8) (tick range : Nat) (input : Int) : SampleCode :=
  if fullScale range ≤ input then 0x7FFF
  else if input ≤ -fullScale range then 0x8000
  else BitVec.ofInt 16 (min 32767 (codeSteps channel tick range input))

/-- The codes of a tick: each channel is converted at the range that RNG has set for the tick (R127, R136). -/
def sampledCodes (inputs : Vector Int 8) (p : Part) : Vector SampleCode 8 :=
  Vector.ofFn (fun c => convert c p.smp.tickCounter p.channels[c].range inputs[c])

/-! ### The tick event -/

/-- The code of an enabled channel written into its history ring, and the ring's fill (R128). -/
def writeHistory (tick : Nat) (codes : Vector SampleCode 8) (p : Part) : Part :=
  (channelList p.smp.enabled).foldl (fun p ch =>
    { p with
      history := Memory.writeWord (historyAddr ch tick) codes[ch] p.history
      fill := p.fill.set ch.val (min (p.fill[ch] + 1) Config.historyDepth) }) p

/-- The Sampler after the tick event of a tick (R126): the counter is not advanced past 2^48 - 1. -/
def sampledTick (tick : Nat) (m : Sampler) : Sampler :=
  { m with newest := some tick, tickCounter := if tick < Config.lastTick then tick + 1 else tick }

/-- RNG observes the codes of the enabled channels (R125). -/
def observeTick (codes : Vector SampleCode 8) (p : Part) : Part :=
  (channelList p.smp.enabled).foldl (fun p ch => modifyChannel ch (observeCode codes[ch]) p) p

/-- The Sampler takes a tick event: it is RUNNING and has not sampled its last tick (R121, R132). -/
def takesTick (m : Sampler) : Bool :=
  m.running && decide (m.newest ≠ some Config.lastTick)

/-- TICK_EVENT (R125). Before the Sampler converts the tick, RNG has taken the codes of the tick before (R140) and a catch-up copy
has read what the tick would overwrite (R70). In STOPPED there is no tick event. -/
def tickEvent (inputs : Vector Int 8) (p : Part) : Part :=
  if takesTick p.smp then
    let tick := p.smp.tickCounter
    let p := settleSpans p
    let codes := sampledCodes inputs p
    let p := allSlots.foldl (fun p w => copyBeforeLoss tick w p) p
    let p := writeHistory tick codes p
    let p := { p with smp := sampledTick tick p.smp }
    let p := triggerTick tick codes p
    let p := observeTick codes p
    allSlots.foldl (fun p w => liveTick tick codes w p) p
  else p

/-- The plans that a stop of the Sampler halts: those RUNNING or DRAINING (R39). -/
def stopsPlan (pl : Plan) : Bool :=
  decide (pl.state = .running) || decide (pl.state = .draining)

/-- Steps 1 to 5 of a stop of the Sampler (R131). -/
def stopSampler (p : Part) : Part :=
  let p := clearLatches { p with smp := { p.smp with running := false } }
  let p := p.jobs.foldl (fun p j => expireJob .samplingStopped j p) p
  let p := allSlots.foldl (fun p w => sealWindow false w p) p
  let p := allPlans.foldl (fun p i => if stopsPlan p.plans[i] then haltPlan i .samplingStopped 0 p else p) p
  allChannels.foldl (fun p ch => cancelPass ch p) p

/-- The start event (R130): steps 1 to 5. Codes of the run before that are still on their way to RNG are taken first, and offers of the
run before that CAP has not taken are handed to no plan (R131), so they go. -/
def startSampler (p : Part) : Part :=
  let p := settleSpans p
  let p := { p with smp := { p.smp with tickCounter := 0, newest := none }, fill := Vector.replicate 8 0 }
  let p := allChannels.foldl (fun p ch => modifyChannel ch startChannel p) p
  let p := allChannels.foldl (fun p ch => detectorUnknown ch p) p
  let p := clearLatches p
  { p with
    trg := { p.trg with offerCount := 0, lastOffer := none, offers := [] }
    smp := { p.smp with running := true } }

end Sys2Proof.Machine
end

