-- ==== Sys2Proof/Machine/SignalCommands.lean ====
section
/-!
DEFINITION. The owners' side of the commands of the part, the Sampler, the Range Controller and the Trigger Unit (sections 7.2, 8.6, 3.2
to 3.4 and 9.6): each owner's checks in its rule's order, its effect and its answer.
-/

namespace Sys2Proof.Machine

/-- What an owner answers when a command has reached it (R161, R162). -/
inductive Reply where
  /-- The response is queued with this status and these results, and the command leaves the intake queue. -/
  | done (status : Status) (results : List Byte)
  /-- The command stays in execution: a TRIGGER whose tick has not been handled (R51). -/
  | waits
  /-- The command has had its effects and stays in execution; its OK response, without results, is queued at a later event (R161). -/
  | takesTime
  /-- The OK response is queued and the command stays in execution: RESET FULL (R169). -/
  | resets
  deriving DecidableEq, Repr

/-- A refusal: no state changes, and the response carries no results. -/
def refuse (status : Status) (p : Part) : Part × Reply :=
  (p, .done status [])

/-- A taken command without results. -/
def taken (p : Part) : Part × Reply :=
  (p, .done .ok [])

/-- A taken command without results whose execution takes time (R161): its effects come about in the event in which it begins, and other events
may be taken before its response is queued (assumption 7). -/
def takenInTime (p : Part) : Part × Reply :=
  (p, .takesTime)

/-- A taken command that only reports. -/
def answer (results : List Byte) (p : Part) : Part × Reply :=
  (p, .done .ok results)

/-! ### The part (section 9.6) -/

/-- INQUIRE (R167). -/
def runInquire (p : Part) : Part × Reply :=
  answer (inquireResults p.lnk.transport) p

/-- STATUS (R168): the snapshot is taken while the command itself stands at the head of the intake queue. -/
def runStatus (p : Part) : Part × Reply :=
  answer (statusResults p) p

/-- A plan's part of RESET FLUSH (R40). -/
def flushedPlan (pl : Plan) : Plan :=
  if stopsPlan pl then { pl with state := .ready, openRecord := none } else pl

/-- RESET FLUSH at CAP, REC, DLV and RNG (R170, R21, R40, R80, R102, R151). -/
def flush (p : Part) : Part :=
  let p := { p with jobs := [], slots := Vector.replicate 4 none, records := [], freeList := allBlocks }
  let p := allPlans.foldl (fun p i => modifyPlan i flushedPlan p) p
  let p := modifyLane 1 flushedLane (modifyLane 0 flushedLane p)
  allChannels.foldl (fun p c => modifyChannel c (fun ch => { ch with lockCount := 0 }) p) p

/-- RESET (R169, R170). -/
def runReset (mode : Byte) (p : Part) : Part × Reply :=
  match mode.toNat with
  | 0 => (p, .resets)
  | 1 => takenInTime (flush p)
  | _ => refuse .badArg p

/-! ### The Sampler (section 7.2) -/

/-- SAMPLING_SET (R124). -/
def runSamplingSet (rate : Byte) (channels : BitVec 16) (p : Part) : Part × Reply :=
  if 7 < rate.toNat then refuse .badArg p
  else
    match channelSetArg channels with
    | none => refuse .badArg p
    | some set =>
      if p.smp.running then refuse .busy p
      else taken { p with smp := { p.smp with rateCode := rate.toNat, enabled := set } }

/-- SAMPLING_START (R130). -/
def runSamplingStart (p : Part) : Part × Reply :=
  if p.smp.running then refuse .badState p else taken (startSampler p)

/-- SAMPLING_STOP (R131). -/
def runSamplingStop (p : Part) : Part × Reply :=
  if p.smp.running then takenInTime (stopSampler p) else refuse .badState p

/-! ### The Range Controller (section 8.6) -/

/-- The tick from which a RANGE_SET takes effect, if the run will sample it (R147): the one the tick counter holds while the Sampler
is RUNNING, unless the run's last tick has been sampled. -/
def rangeSetTick (p : Part) : Option Nat :=
  if takesTick p.smp then some p.smp.tickCounter else none

/-- The effect of a taken RANGE_SET that names another range than the present one (R147). A code of the old range that is still on its way to
RNG is taken first, so that no code of the old range comes into a span that is evaluated (R139). -/
def setRange (ch : Fin 8) (range : Nat) (p : Part) : Part :=
  let p := spanArrival ch p
  let tick := rangeSetTick p
  detectorUnknown ch (modifyChannel ch (fun c =>
    match tick with
    | some t => appendEntry { tick := t, range := range } { c with range := range }
    | none => { c with range := range }) p)

/-- RANGE_SET (R147). -/
def runRangeSet (channel range : Byte) (p : Part) : Part × Reply :=
  match channelArg channel with
  | none => refuse .badArg p
  | some ch =>
    if maxRange ch < range.toNat then refuse .badArg p
    else if p.channels[ch].mode ≠ .manual then refuse .badState p
    else if 0 < p.channels[ch].lockCount then refuse .locked p
    else if p.channels[ch].range = range.toNat then taken p
    else taken (setRange ch range.toNat p)

/-- The effect of a taken RANGE_MODE, steps 1 to 4 (R148). -/
def setRangeMode (ch : Fin 8) (mode : RangeMode) (p : Part) : Part :=
  modifyChannel ch (fun c =>
    newSpan { c with mode := mode, counted := if mode = .once then some 0 else none }) (cancelPass ch p)

/-- RANGE_MODE (R148). -/
def runRangeMode (channel mode : Byte) (p : Part) : Part × Reply :=
  match channelArg channel, rangeModeArg mode with
  | some ch, some m =>
    if 6 ≤ ch.val ∧ m ≠ .manual then refuse .unsupported p else taken (setRangeMode ch m p)
  | _, _ => refuse .badArg p

/-- CHANNEL_GET (R149). -/
def runChannelGet (channel : Byte) (p : Part) : Part × Reply :=
  match channelArg channel with
  | none => refuse .badArg p
  | some ch => answer (channelResults ch p.channels[ch]) p

/-! ### The Trigger Unit (sections 3.2 to 3.4) -/

/-- EXTLINE_SET (R44). -/
def runExtlineSet (line enabled edge : Byte) (p : Part) : Part × Reply :=
  match lineArg line, boolArg enabled, edgeArg edge with
  | some l, some on, some sel =>
    taken (modifyLine l (fun x => { x with enabled := on, edge := sel, reference := x.level, latch := false }) p)
  | _, _, _ => refuse .badArg p

/-- DETECTOR_SET (R49). -/
def runDetectorSet (channel enabled : Byte) (threshold hysteresis : BitVec 16) (direction : Byte) (p : Part) : Part × Reply :=
  match channelArg channel, boolArg enabled, directionArg direction with
  | some ch, some on, some dir =>
    if 4095 < hysteresis.toNat then refuse .badArg p
    else
      taken (modifyDetector ch (fun _ =>
        { enabled := on, threshold := threshold, hysteresis := hysteresis.toNat, direction := dir, state := .unknown }) p)
  | _, _, _ => refuse .badArg p

/-- TRIGGER (R50): a taken one stays in execution until the offer of its tick has been handled. -/
def runTrigger (mask : Byte) (p : Part) : Part × Reply :=
  if mask = 0 then refuse .badArg p
  else if p.smp.running then ({ p with trg := { p.trg with run := some { mask := mask, firedAt := none } } }, .waits)
  else (p, .done .badState (triggerResults none 0 0))

end Sys2Proof.Machine
end

