-- ==== Sys2Proof/Machine/PlanCommands.lean ====
section
/-!
DEFINITION. CAP's side of the plan commands (sections 2.2, 2.4 and 2.5).
-/

namespace Sys2Proof.Machine

/-- Checks 4 and 5 of R24: both lengths are multiples of d, and the maximal record fits the pool (R6). -/
def definitionFits (d : PlanDef) : Bool :=
  d.pre % d.decimation == 0 && d.post % d.decimation == 0 &&
    decide (blocksFor (recordWords (channelList d.channels).length d.pre d.post d.decimation) ≤ Config.blockCount)

/-- The plan as a taken PLAN_DEFINE leaves it (R25). -/
def definedPlan (d : PlanDef) (pl : Plan) : Plan :=
  { pl with
    state := .ready, definition := some d, haltReason := none, shots := .count 0, lastAccepted := none,
    counters := PlanCounters.zero }

/-- PLAN_DEFINE (R24, R25). -/
def runPlanDefine (plan : Byte) (args : PlanArgs) (p : Part) : Part × Reply :=
  match planArg plan with
  | none => refuse .badArg p
  | some i =>
    if stopsPlan p.plans[i] then refuse .busy p
    else
      match planDefArg args with
      | none => refuse .badArg p
      | some d => if definitionFits d then taken (modifyPlan i (definedPlan d) p) else refuse .badArg p

/-- PLAN_CLEAR (R33). -/
def runPlanClear (plan : Byte) (p : Part) : Part × Reply :=
  match planArg plan with
  | none => refuse .badArg p
  | some i =>
    match p.plans[i].state with
    | .running => refuse .busy p
    | .draining => refuse .busy p
    | .empty => taken p
    | .ready => taken (modifyPlan i (fun _ => Plan.reset) p)
    | .done => taken (modifyPlan i (fun _ => Plan.reset) p)
    | .halted => taken (modifyPlan i (fun _ => Plan.reset) p)

/-- Shots remaining at a start (R27). -/
def startShots : RunMode → Shots
  | .single => .count 1
  | .count n => .count n
  | .continuous => .unlimited

/-- The plan as a taken PLAN_START leaves it (R27). -/
def startedPlan (d : PlanDef) (pl : Plan) : Plan :=
  { pl with
    state := .running, haltReason := none, shots := startShots d.runMode, lastAccepted := none,
    counters := PlanCounters.zero }

/-- The effect of a taken PLAN_START (R27): the plan runs, and the offers of ticks already sampled are not for it. -/
def startPlan (i : Fin 8) (d : PlanDef) (p : Part) : Part :=
  modifyPlan i (startedPlan d)
    { p with trg := { p.trg with
        offers := p.trg.offers.map (fun o => { o with unseenBy := o.unseenBy ||| planBit i }) } }

/-- PLAN_START (R27). -/
def runPlanStart (plan : Byte) (p : Part) : Part × Reply :=
  match planArg plan with
  | none => refuse .badArg p
  | some i =>
    if stopsPlan p.plans[i] then refuse .busy p
    else
      match p.plans[i].definition with
      | none => refuse .badState p
      | some d =>
        if p.plans[i].state = .empty then refuse .badState p
        else if p.smp.running = false then refuse .badState p
        else if d.channels &&& ~~~p.smp.enabled ≠ 0 then refuse .badState p
        else taken (startPlan i d p)

/-- PLAN_STOP GRACEFUL of a RUNNING or DRAINING plan (R29, R30). -/
def stopGraceful (i : Fin 8) (p : Part) : Part :=
  if p.plans[i].state = .running then planDoneIfIdle i (modifyPlan i (fun pl => { pl with state := .draining }) p) else p

/-- The slot of a plan's window. -/
def planSlot (p : Part) (i : Fin 8) : Option (Fin 4) :=
  allSlots.find? (fun w => (p.slots[w]).any (fun x => x.plan == i))

/-- PLAN_STOP ABORT of a RUNNING or DRAINING plan (R31): its jobs go without reports, its window is sealed and it moves to HALTED. The
removals and the seal have the Pending Job Queue re-examined; an abort that removes no job and seals no window does not (R61). -/
def stopAbort (i : Fin 8) (p : Part) : Part :=
  let removed := p.jobsPending i
  let p := { p with jobs := p.jobs.filter (fun j => j.plan != i) }
  match planSlot p i with
  | some w => reexamine (haltPlan i .hostAbort removed (sealWindow false w p))
  | none => if removed = 0 then haltPlan i .hostAbort 0 p else reexamine (haltPlan i .hostAbort removed p)

/-- PLAN_STOP (R29, R31). -/
def runPlanStop (plan mode : Byte) (p : Part) : Part × Reply :=
  match planArg plan, mode.toNat with
  | some i, 0 => if stopsPlan p.plans[i] then taken (stopGraceful i p) else refuse .badState p
  | some i, 1 => if stopsPlan p.plans[i] then takenInTime (stopAbort i p) else refuse .badState p
  | _, _ => refuse .badArg p

/-- PLAN_GET (R34). -/
def runPlanGet (plan : Byte) (p : Part) : Part × Reply :=
  match planArg plan with
  | none => refuse .badArg p
  | some i => answer (planResults p i) p

end Sys2Proof.Machine
end

