-- ==== Sys2Proof/Machine/RecordCommands.lean ====
section
/-!
DEFINITION. REC's and DLV's side of the record and lane commands (sections 1.6, 5.8 and 6.5).
-/

namespace Sys2Proof.Machine

/-- RECORD_LIST (R14). -/
def runRecordList (p : Part) : Part × Reply :=
  answer (recordListResults p) p

/-- A SEALED record taken out of its lane's delivery queue (R15). -/
def withdrawQueued (l : Fin 2) (id : Nat) (p : Part) : Part :=
  modifyLane l (fun ln => { ln with queue := ln.queue.erase id }) p

/-- RECORD_DISCARD (R15). -/
def runRecordDiscard (id : BitVec 16) (p : Part) : Part × Reply :=
  match findRecord p id.toNat with
  | none => refuse .noSuch p
  | some r =>
    match r.state with
    | .opened => refuse .badState p
    | .sealed => takenInTime (freeAndReexamine r.id (withdrawQueued r.lane r.id p))
    | .sending => takenInTime (freeAndReexamine r.id (abandonRecord r.lane r.id p))
    | .delivered => takenInTime (freeAndReexamine r.id p)

/-- RECORD_RELEASE (R17). -/
def runRecordRelease (id : BitVec 16) (p : Part) : Part × Reply :=
  match findRecord p id.toNat with
  | none => refuse .noSuch p
  | some r => if r.state = .delivered then takenInTime (freeAndReexamine r.id p) else refuse .badState p

/-- A DELIVERED record as a replay hands it on (R18). -/
def replayedRecord (r : Record) : Record :=
  { r with state := .sealed, flags := { r.flags with replayed := true } }

/-- RECORD_REPLAY (R18, R83, R181): the record joins the tail of its lane's queue, and its header begins staging in the same event where R88 allows
it, as at the hand-off of a sealed record; otherwise the record stands there SEALED (assumption 24). -/
def runRecordReplay (id : BitVec 16) (p : Part) : Part × Reply :=
  match findRecord p id.toNat with
  | none => refuse .noSuch p
  | some r =>
    if r.state = .delivered then takenInTime (handOff r.lane r.id (modifyRecord r.id replayedRecord p))
    else refuse .badState p

/-- The configuration that LANE_SET's arguments give, none if one is outside its values (R98). -/
def laneConfigArg (k : Byte) (ackTimeout backoff : BitVec 16) (retryLimit : Byte) : Option LaneConfig :=
  if (1 ≤ k.toNat ∧ k.toNat ≤ 15) ∧ (1 ≤ ackTimeout.toNat ∧ ackTimeout.toNat ≤ 1000) ∧
      (1 ≤ backoff.toNat ∧ backoff.toNat ≤ 1000) ∧ retryLimit.toNat ≤ 15 then
    some { k := k.toNat, ackTimeout := ackTimeout.toNat, backoffInterval := backoff.toNat, retryLimit := retryLimit.toNat }
  else none

/-- LANE_SET (R98). -/
def runLaneSet (lane k : Byte) (ackTimeout backoff : BitVec 16) (retryLimit : Byte) (p : Part) : Part × Reply :=
  match laneArg lane, laneConfigArg k ackTimeout backoff retryLimit with
  | some l, some c =>
    if p.lanes[l].state = .idle ∧ p.lanes[l].current = none then
      taken (modifyLane l (fun ln => { ln with config := c, counters := LaneCounters.zero }) p)
    else refuse .busy p
  | _, _ => refuse .badArg p

/-- LANE_CLEAR_HALT (R116, R117). -/
def runLaneClearHalt (lane : Byte) (p : Part) : Part × Reply :=
  match laneArg lane with
  | none => refuse .badArg p
  | some l => if p.lanes[l].state = .halted then taken (clearHalt l p) else refuse .badState p

/-- LANE_GET (R99, R120). -/
def runLaneGet (lane : Byte) (p : Part) : Part × Reply :=
  match laneArg lane with
  | none => refuse .badArg p
  | some l => answer (laneResults l p.lanes[l]) p

end Sys2Proof.Machine
end

