-- ==== Sys2Proof/Machine/Link.lean ====
section
/-!
DEFINITION. LNK (Chapter 9): the execution of commands, admission, the inbound parser, and the outbound frames.
-/

namespace Sys2Proof.Machine

/-! ### Execution (R161, R162) -/

/-- A command handed to the block that owns what it names. -/
def runCommand : Command → Part → Part × Reply
  | .inquire => runInquire
  | .status => runStatus
  | .reset mode => runReset mode
  | .samplingSet rate channels => runSamplingSet rate channels
  | .samplingStart => runSamplingStart
  | .samplingStop => runSamplingStop
  | .rangeSet channel range => runRangeSet channel range
  | .rangeMode channel mode => runRangeMode channel mode
  | .channelGet channel => runChannelGet channel
  | .extlineSet line enabled edge => runExtlineSet line enabled edge
  | .detectorSet channel enabled threshold hysteresis direction =>
    runDetectorSet channel enabled threshold hysteresis direction
  | .trigger mask => runTrigger mask
  | .planDefine plan definition => runPlanDefine plan definition
  | .planClear plan => runPlanClear plan
  | .planStart plan => runPlanStart plan
  | .planStop plan mode => runPlanStop plan mode
  | .planGet plan => runPlanGet plan
  | .recordList => runRecordList
  | .recordDiscard id => runRecordDiscard id
  | .recordRelease id => runRecordRelease id
  | .recordReplay id => runRecordReplay id
  | .laneSet lane k ackTimeout backoff retryLimit => runLaneSet lane k ackTimeout backoff retryLimit
  | .laneClearHalt lane => runLaneClearHalt lane
  | .laneGet lane => runLaneGet lane

/-- LNK's checks of a payload, and the owner's where it passes them (R162, R173). -/
def runPayload (payload : List Byte) (p : Part) : Part × Reply :=
  match decodePayload payload with
  | .unknown _ => refuse .unknownCommand p
  | .badLength _ => refuse .badLength p
  | .command c => runCommand c p

/-- The response of an admitted command, in its reserved entry (R160, R162). -/
def commandResponse (c : IntakeCommand) (status : Status) (results : List Byte) : Response :=
  { tag := c.tag, code := payloadCode c.payload, status := status, results := results, reserved := true, resetFull := false }

/-- The command in execution answered: its response is queued and it leaves the intake queue (R161). -/
def answerHead (status : Status) (results : List Byte) (p : Part) : Part :=
  match p.lnk.intake with
  | [] => p
  | c :: rest =>
    queueResponse (commandResponse c status results) { p with lnk := { p.lnk with intake := rest } }

/-- RESET FULL's OK queued while the command stays in execution (R169). -/
def answerReset (p : Part) : Part :=
  match p.lnk.intake with
  | [] => p
  | c :: _ =>
    queueResponse { commandResponse c .ok [] with resetFull := true } { p with lnk := { p.lnk with resetting := true } }

/-- What an owner's answer does to the intake and the response queue. -/
def applyReply : Part × Reply → Part
  | (p, .done status results) => answerHead status results p
  | (p, .waits) => p
  | (p, .takesTime) => { p with lnk := { p.lnk with finishing := true } }
  | (p, .resets) => answerReset p

/-- A command of the intake queue has begun execution and has not ended it (R161): a TRIGGER that waits for its tick, a command that takes time and
whose response is still to be queued, or a RESET FULL. -/
def executing (p : Part) : Bool :=
  p.trg.run.isSome || p.lnk.finishing || p.lnk.resetting

/-- The command at the head of the intake queue begins execution, unless one is in execution. -/
def executeHead (p : Part) : Part :=
  match p.lnk.intake with
  | [] => p
  | c :: _ => if executing p then p else applyReply (runPayload c.payload p)

/-- At most `n` commands of the intake queue begin execution, one after another. -/
def executeFor : Nat → Part → Part
  | 0, p => p
  | n + 1, p => executeFor n (executeHead p)

/-- Commands execute from the head of the intake queue for as long as each is done within its event (R161). -/
def drain (p : Part) : Part :=
  executeFor p.lnk.intake.length p

/-- The end of the execution of a command that takes time (R161): its OK response is queued, and the commands behind it execute. -/
def finishExecution (p : Part) : Part :=
  drain (answerHead .ok [] { p with lnk := { p.lnk with finishing := false } })

/-! ### Admission (R159) -/

/-- An immediate response in an unreserved entry, or, with none free, the discard of the frame with cause NO_ROOM (R159). -/
def refuseFrame (tag : Byte) (payload : List Byte) (status : Status) (p : Part) : Part :=
  if unreservedInUse p.lnk < Config.unreservedPlaces then
    queueResponse
      { tag := tag, code := payloadCode payload, status := status, results := [], reserved := false, resetFull := false } p
  else linkError .noRoom (some tag) p

/-- A command appended to the tail of the intake queue; it begins execution at once if none is in execution (R159, R161). -/
def admitCommand (tag : Byte) (payload : List Byte) (p : Part) : Part :=
  drain { p with lnk := { p.lnk with intake := p.lnk.intake ++ [{ tag := tag, payload := payload }] } }

/-- A good COMMAND frame is admitted or refused (R159): the first check that applies decides. -/
def takeCommand (tag : Byte) (payload : List Byte) (p : Part) : Part :=
  if tag = 0 then refuseFrame tag payload .badArg p
  else if p.lnk.intake.any (fun c => c.tag == tag) then refuseFrame tag payload .tagInUse p
  else if Config.intakePlaces ≤ intakeLoad p.lnk then refuseFrame tag payload .overflow p
  else admitCommand tag payload p

/-- The CHECK event of a good COMMAND frame: the parser returns to HUNT and the frame goes to admission (R155, R158). -/
def commandArrives (tag : Byte) (payload : List Byte) (p : Part) : Part :=
  takeCommand tag payload (parserToHunt p)

/-- The arrival of a good COMMAND frame that carries a command of the command table. -/
def hostCommand (tag : Byte) (c : Command) (p : Part) : Part :=
  commandArrives tag (encodeCommand c) p

/-! ### The inbound parser (R155 to R158) -/

/-- The frame in the parser discarded with a cause and the frame's tag, if the parser had taken it (R156). -/
def discardFrame (cause : LinkCause) (tag : Option Byte) (p : Part) : Part :=
  linkError cause tag (parserToHunt p)

/-- The tag byte of the frame that the parser holds: the fourth byte kept. -/
def parserTag (x : Parser) : Option Byte :=
  x.kept[3]?

/-- The CHECK event of a good ACK frame: it goes to the lane it names (R158, R103). -/
def ackArrives (lane seq verdict : Byte) (p : Part) : Part :=
  takeAck lane seq verdict (parserToHunt p)

/-- A frame with a good CRC judged by its kind (R158, R175). -/
def judgeKind (kind tag : Byte) (payload : List Byte) (p : Part) : Part :=
  if kind = 0x10 then commandArrives tag payload p
  else if kind = 0x11 then
    match payload with
    | [lane, seq, verdict] => ackArrives lane seq verdict p
    | _ => discardFrame .length (some tag) p
  else discardFrame .kind (some tag) p

/-- The kept bytes of a frame judged against the CRC received, low byte first (R156, R158). -/
def judgeFrame (kept : List Byte) (crcLow crcHigh : Byte) (p : Part) : Part :=
  match kept with
  | _ :: _ :: kind :: tag :: payload =>
    if crc16 kept = byteWord crcLow crcHigh then judgeKind kind tag payload p else discardFrame .crc (some tag) p
  | _ => discardFrame .length none p

/-- The parser's content. -/
def setParser (x : Parser) (p : Part) : Part :=
  { p with lnk := { p.lnk with parser := x } }

/-- A length counts the kind, the tag and a payload of at most 1,024 bytes (R155). -/
def lengthGood (n : Nat) : Bool :=
  decide (2 ≤ n) && decide (n ≤ Config.largestPayload + 2)

/-- A byte taken in LENGTH (R155). -/
def takeLengthByte (b : Byte) (x : Parser) (p : Part) : Part :=
  match x.kept with
  | [] => setParser { x with kept := [b], gap := 0 } p
  | low :: _ =>
    if lengthGood (leNat [low, b]) then
      setParser { x with state := .body, kept := [low, b], length := leNat [low, b], gap := 0 } p
    else discardFrame .length none p

/-- A byte taken in BODY (R155). -/
def takeBodyByte (b : Byte) (x : Parser) (p : Part) : Part :=
  let kept := x.kept ++ [b]
  setParser { x with state := if x.length + 2 ≤ kept.length then .check else .body, kept := kept, gap := 0 } p

/-- A byte taken in CHECK (R155). -/
def takeCheckByte (b : Byte) (x : Parser) (p : Part) : Part :=
  match x.crcLow with
  | none => setParser { x with crcLow := some b, gap := 0 } p
  | some low => judgeFrame x.kept low b p

/-- The parser takes a byte (R155). -/
def parseByte (b : Byte) (p : Part) : Part :=
  match p.lnk.parser.state with
  | .hunt => if b = 0xC3 then setParser { Parser.hunting with state := .length } p else p
  | .length => takeLengthByte b p.lnk.parser p
  | .body => takeBodyByte b p.lnk.parser p
  | .check => takeCheckByte b p.lnk.parser p

/-- The cause that a FRAME_DISCARD step names (R156). -/
def faultCause : FrameFault → LinkCause
  | .badLength => .length
  | .badCrc => .crc
  | .badKind => .kind

/-- GAP_EXPIRY (R156, R157): the gap timer runs under UART in LENGTH, BODY and CHECK. -/
def gapExpires (p : Part) : Part :=
  match p.lnk.transport with
  | .uart _ => if p.lnk.parser.state = .hunt then p else discardFrame .gap (parserTag p.lnk.parser) p
  | .spi => p

/-- A rise of CS# (R153, R156): it cuts the inbound frame that the parser holds. -/
def csRises (p : Part) : Part :=
  match p.lnk.transport with
  | .spi => if p.lnk.parser.state = .hunt then p else discardFrame .cut (parserTag p.lnk.parser) p
  | .uart _ => p

/-! ### The outbound side (R165, R166) -/

/-- A frame in flight, none of its bytes exchanged yet. -/
def putInFlight (cargo : Cargo) (bytes : List Byte) (p : Part) : Part :=
  { p with lnk := { p.lnk with inFlight := some { cargo := cargo, bytes := bytes, exchanged := 0 } } }

/-- The lane that the arbiter takes, and the packet of its send buffer (R165): the lane whose turn it is if it is READY, else the other. -/
def readyLane (p : Part) : Option (Fin 2 × Packet) :=
  match readyPacket p.lanes[p.lnk.turn] with
  | some k => some (p.lnk.turn, k)
  | none => (readyPacket p.lanes[1 - p.lnk.turn]).map (fun k => (1 - p.lnk.turn, k))

/-- The start of a DATA frame (R90, R165): the frame is built from the lane as it stands, and the turn passes to the other lane. -/
def startData (l : Fin 2) (k : Packet) (p : Part) : Part :=
  let bytes := frameBytes 0x22 0 (dataPayload l p.lanes[l] k)
  let p := startLane l k p
  putInFlight (.data l) bytes { p with lnk := { p.lnk with turn := 1 - l } }

/-- The arbiter starts a frame (R165, R166). With a frame in flight, or none waiting, nothing starts. -/
def startFrame (p : Part) : Part :=
  if p.lnk.inFlight.isSome then p
  else
    match p.lnk.responses, p.lnk.reports with
    | r :: rest, _ =>
      putInFlight (.response r.resetFull) (frameBytes 0x20 r.tag (responsePayload r))
        { p with lnk := { p.lnk with responses := rest } }
    | [], q :: rest =>
      putInFlight .report (frameBytes 0x21 0 (reportPayload q)) { p with lnk := { p.lnk with reports := rest } }
    | [], [] =>
      match readyLane p with
      | some (l, k) => startData l k p
      | none => p

/-- A lane that stands IDLE with a packet HELD in its send buffer and nothing awaiting announces it by becoming READY (R82). Only a lane that a
RESET FLUSH has left IDLE at its frame's completion stands so (R91, R102; assumption 14). -/
def announcedLane (ln : Lane) : Lane :=
  if ln.state = .idle ∧ ln.awaiting = none ∧ ln.buffers[ln.seq].holds = true then { ln with state := .ready } else ln

/-- Both lanes announce their packets. -/
def announced (p : Part) : Part :=
  modifyLane 1 announcedLane (modifyLane 0 announcedLane p)

/-- What an event finds done, unless it meets the start of a DATA frame (`partFound`): with the link free and a frame waiting, the arbiter has started one (R165; assumption 12). -/
def arbitrated (p : Part) : Part :=
  startFrame (announced p)

/-- A step that is an event at the part: the frame start that is due comes before it (R165). -/
def onEvent (f : Part → Part) (s : State) : Host.Outcome State Fault Refusal :=
  onPart (fun p => f (arbitrated p)) s

/-! ### Events that meet the start of a DATA frame (R97, R106, R109, R113, R118) -/

/-- The lane whose DATA frame the arbiter is about to start: the link is free, no response and no report waits, and the lane is READY (R165). -/
def dueLane (p : Part) : Option (Fin 2) :=
  if p.lnk.inFlight.isSome || !p.lnk.responses.isEmpty || !p.lnk.reports.isEmpty then none
  else (readyLane p).map (fun x => x.1)

/-- An event at some of the lanes meets the arbiter's start of a DATA frame for one of them. -/
def startMeets (lanes : Fin 2 → Bool) (p : Part) : Bool :=
  (dueLane (announced p)).any lanes

/-- What an event finds done: the due start, or, where the two meet, the lanes' announcements alone, since the event is taken first. -/
def partFound (lanes : Fin 2 → Bool) (p : Part) : Part :=
  if startMeets lanes p then announced p else arbitrated p

/-- What an event that has come to the part `p` leaves: where it met the start and was taken first, the arbiter starts one frame after it (R165). -/
def startAfter (lanes : Fin 2 → Bool) (p q : Part) : Part :=
  if startMeets lanes p then arbitrated q else q

/-- A step that is an event which the manual lets meet the arbiter's start at these lanes, and which is taken first where they meet. A FRAME_START
step before it is the other order (assumption 12). -/
def onMeeting (lanes : Fin 2 → Bool) (f : Part → Part) (s : State) : Host.Outcome State Fault Refusal :=
  onPart (fun p => startAfter lanes p (f (partFound lanes p))) s

/-- An ACK meets the start of the lane it names (R106, R109, R113). -/
def ackMeets (lane : Byte) (l : Fin 2) : Bool :=
  ackLane lane == l

/-- RECORD_DISCARD and RESET FLUSH act on the lanes, and meet a start at either (R97, R113). No other command withdraws a packet from a READY lane. -/
def commandMeets : Command → Bool
  | .recordDiscard _ => true
  | .reset mode => mode == 1
  | _ => false

/-- A COMMAND frame meets a start as the command it carries does. -/
def payloadMeets (payload : List Byte) (_ : Fin 2) : Bool :=
  match decodePayload payload with
  | .command c => commandMeets c
  | .unknown _ => false
  | .badLength _ => false

/-- A good frame meets a start as the ACK or the COMMAND it is does. -/
def frameMeets (kind : Byte) (payload : List Byte) (l : Fin 2) : Bool :=
  if kind = 0x10 then payloadMeets payload l
  else if kind = 0x11 then
    match payload with
    | [lane, _, _] => ackMeets lane l
    | _ => false
  else false

/-- An inbound byte meets a start where it is the last byte of a good frame that does. -/
def byteMeets (b : Byte) (x : Parser) (l : Fin 2) : Bool :=
  match x.state, x.crcLow, x.kept with
  | .check, some low, _ :: _ :: kind :: _ :: payload => crc16 x.kept == byteWord low b && frameMeets kind payload l
  | _, _, _ => false

/-- FRAME_START (R165, R166), on a part whose due start has been made. Where none was due and a command that takes time is in execution, the frame
that starts is the first that the end of that execution lets start: the execution has ended (R161; assumption 7). -/
def frameStarts (p : Part) : Part :=
  if p.lnk.finishing ∧ p.lnk.inFlight = none then arbitrated (finishExecution p) else p

/-- Every byte of the frame has left the part: under SPI the host has clocked them all (R153, R166). -/
def allSent (t : Transport) (f : InFlight) : Bool :=
  match t with
  | .spi => decide (f.bytes.length ≤ f.exchanged)
  | .uart _ => true

/-- What the completion of a frame does beside freeing the link (R166, R91, R169). -/
def cargoArrived (pins : ResetPins) : Cargo → Part → Part
  | .response true, p => deviceReset .command pins p
  | .response false, p => p
  | .report, p => p
  | .data l, p => completeLane l p

/-- FRAME_COMPLETE (R166). With no frame in flight, or with bytes the host has yet to clock under SPI, no frame completes. -/
def completeFrame (pins : ResetPins) (p : Part) : Part :=
  match p.lnk.inFlight with
  | some f =>
    if allSent p.lnk.transport f then cargoArrived pins f.cargo { p with lnk := { p.lnk with inFlight := none } } else p
  | none => p

/-! ### Bytes on the line (R152, R153) -/

/-- The outbound byte of an exchange (R153): the next byte of the frame in flight, else the fill byte 00h. -/
def nextOutbound : Option InFlight → Byte
  | some f => f.bytes.getD f.exchanged 0
  | none => 0

/-- The outbound side of one exchanged byte under SPI (R153). -/
def exchangeByte (p : Part) : Part :=
  { p with lnk := { p.lnk with
      sdo := nextOutbound p.lnk.inFlight
      inFlight := p.lnk.inFlight.map (fun f => { f with exchanged := min (f.exchanged + 1) f.bytes.length }) } }

/-- INBOUND_BYTE (R155, R153): under SPI the part also sends its next outbound byte in the exchange, and the exchange of a frame's last byte
completes the frame. The manual does not say which comes first where one exchange carries both the last byte of an outbound frame and the last of
an inbound one: the model takes the inbound byte's effect first (assumption 26). -/
def byteArrives (b : Byte) (pins : ResetPins) (p : Part) : Part :=
  match p.lnk.transport with
  | .uart _ => parseByte b p
  | .spi => completeFrame pins (parseByte b (exchangeByte p))

/-! ### The offer that answers a TRIGGER (R52, R54) -/

/-- A waiting TRIGGER answered, and the commands behind it executed (R161). -/
def endTrigger (status : Status) (results : List Byte) (p : Part) : Part :=
  drain (answerHead status results { p with trg := { p.trg with run := none } })

/-- The TRIGGER in execution fired SOFT at a tick. -/
def firedAt (p : Part) (tick : Nat) : Bool :=
  match p.trg.run with
  | some r => decide (r.firedAt = some tick)
  | none => false

/-- CAP's event for an offer (R54, R56): judgements, then the re-examination if a job was appended, then the response to the TRIGGER
whose tick it is. -/
def handleOffer (o : Offer) (p : Part) : Part :=
  let j := judgeOffer o p
  let p := if j.accepted = 0 then j.part else reexamine j.part
  if firedAt p o.tick then endTrigger .ok (triggerResults (some o.tick) j.accepted j.dropped) p else p

/-- OFFER (R54): CAP takes the oldest offer that TRG has formed and CAP has not taken. -/
def takeOffer (p : Part) : Part :=
  match p.trg.offers with
  | [] => p
  | o :: rest => handleOffer o { p with trg := { p.trg with offers := rest } }

/-- TICK_LIMIT_STOP (R132, R52): it follows the tick event of tick 2^48 - 1. A TRIGGER in execution ends at the stop with BAD_STATE, no tick and empty
masks, also where its SOFT has fired at that tick and the offer has not been taken: R132 says so of any TRIGGER in execution, R52 only of
one whose tick has not come; the choice is the model's (assumption 25). -/
def tickLimitStop (p : Part) : Part :=
  if p.smp.running ∧ p.smp.newest = some Config.lastTick then
    let p := postReport (.samplerStopped Config.lastTick) (stopSampler p)
    if p.trg.run.isSome then endTrigger .badState (triggerResults none 0 0) p else p
  else p

end Sys2Proof.Machine
end

