-- ==== Sys2Proof/Machine/Time.lean ====
section
/-!
DEFINITION. What a step on an empty queue does (assumption 4): a command that takes time ends its execution, or one millisecond passes for the
timers of the lanes and of the parser.
-/

namespace Sys2Proof.Machine

/-- One millisecond on a lane's timers (R111, R112): each runs only in its own state, and at 0 it expires. -/
def laneMillisecond (l : Fin 2) (p : Part) : Part :=
  match p.lanes[l].ackTimer, p.lanes[l].backoffTimer with
  | some n, _ => if n ≤ 1 then ackExpiry l p else modifyLane l (fun ln => { ln with ackTimer := some (n - 1) }) p
  | none, some n =>
    if n ≤ 1 then backoffExpiry l p else modifyLane l (fun ln => { ln with backoffTimer := some (n - 1) }) p
  | none, none => p

/-- One millisecond on the gap timer (R156): it runs under UART in LENGTH, BODY and CHECK, and expires when more than 5 ms have passed. -/
def gapMillisecond (p : Part) : Part :=
  match p.lnk.transport with
  | .uart _ =>
    if p.lnk.parser.state = .hunt then p
    else if Config.gapLimit < p.lnk.parser.gap + 1 then gapExpires p
    else setParser { p.lnk.parser with gap := p.lnk.parser.gap + 1 } p
  | .spi => p

/-- One millisecond passes: the timers of L0, of L1, then of the parser. -/
def millisecond (p : Part) : Part :=
  gapMillisecond (laneMillisecond 1 (laneMillisecond 0 p))

/-- What comes about with no step waiting: the end of an execution that takes time, if one is due (R161; assumption 7), else a millisecond. -/
def elapse (p : Part) : Part :=
  if p.lnk.finishing then finishExecution p else millisecond p

end Sys2Proof.Machine
end

