-- ==== Sys2Proof/Machine/Events.lean ====
section
/-!
DEFINITION. The meanings of the event rows of spec/opcode_table.json, one definition each.
-/

namespace Sys2Proof.Machine

/-- POWER_ON (R171): a device reset with cause POWER. What the memories hold afterwards is not stated; they are kept (assumption 1). -/
def execPowerOn (pins : ResetPins) (s : State) : Host.Outcome State Fault Refusal :=
  onPart (deviceReset .power pins) s

/-- RESET_PIN (R171): a device reset with cause PIN. -/
def execResetPin (pins : ResetPins) (s : State) : Host.Outcome State Fault Refusal :=
  onPart (deviceReset .pin pins) s

/-- EXT_EDGE (R42, R45). A line that already has the level has no edge. -/
def execExtEdge (line : Fin 4) (level : Bool) (s : State) : Host.Outcome State Fault Refusal :=
  onEvent (fun p => modifyLine line (edgeOnLine p.smp.running level) p) s

/-- TICK_EVENT (R125). -/
def execTickEvent (inputs : Vector Int 8) (s : State) : Host.Outcome State Fault Refusal :=
  onEvent (Sys2Proof.Machine.tickEvent inputs) s

/-- SPAN_END (R139). -/
def execSpanEnd (channel : Fin 8) (s : State) : Host.Outcome State Fault Refusal :=
  onEvent (spanArrival channel) s

/-- TICK_LIMIT_STOP (R132). -/
def execTickLimitStop (s : State) : Host.Outcome State Fault Refusal :=
  onEvent Sys2Proof.Machine.tickLimitStop s

/-- OFFER (R54). -/
def execOffer (s : State) : Host.Outcome State Fault Refusal :=
  onEvent takeOffer s

/-- JOB_EXPIRY (R63). -/
def execJobExpiry (s : State) : Host.Outcome State Fault Refusal :=
  onEvent expireByHistory s

/-- COPY_END (R70). -/
def execCopyEnd (slot : Fin 4) (s : State) : Host.Outcome State Fault Refusal :=
  onEvent (endCopy slot) s

/-- WINDOW_SEAL (R72, R73). -/
def execWindowSeal (slot : Fin 4) (s : State) : Host.Outcome State Fault Refusal :=
  onEvent (sealEnded slot) s

/-- STAGING_END (R89). -/
def execStagingEnd (lane buffer : Fin 2) (s : State) : Host.Outcome State Fault Refusal :=
  onEvent (endStaging lane buffer) s

/-- FRAME_START (R165, R166). -/
def execFrameStart (s : State) : Host.Outcome State Fault Refusal :=
  onEvent frameStarts s

/-- FRAME_COMPLETE (R166). -/
def execFrameComplete (pins : ResetPins) (s : State) : Host.Outcome State Fault Refusal :=
  onEvent (completeFrame pins) s

/-- ACK (R103, R158, R175). -/
def execAck (lane seq verdict : Byte) (s : State) : Host.Outcome State Fault Refusal :=
  onMeeting (ackMeets lane) (ackArrives lane seq verdict) s

/-- ACK_TIMER_EXPIRY (R111). -/
def execAckTimerExpiry (lane : Fin 2) (s : State) : Host.Outcome State Fault Refusal :=
  onEvent (ackExpiry lane) s

/-- BACKOFF_TIMER_EXPIRY (R112). -/
def execBackoffTimerExpiry (lane : Fin 2) (s : State) : Host.Outcome State Fault Refusal :=
  onEvent (backoffExpiry lane) s

/-- COMMAND_FRAME (R159). -/
def execCommandFrame (tag : Byte) (payload : List Byte) (s : State) : Host.Outcome State Fault Refusal :=
  onMeeting (payloadMeets payload) (commandArrives tag payload) s

/-- FRAME_DISCARD (R156). -/
def execFrameDiscard (fault : FrameFault) (tag : Option Byte) (s : State) : Host.Outcome State Fault Refusal :=
  onEvent (discardFrame (faultCause fault) tag) s

/-- GAP_EXPIRY (R157). -/
def execGapExpiry (s : State) : Host.Outcome State Fault Refusal :=
  onEvent gapExpires s

/-- CS_RISE (R153, R156). -/
def execCsRise (s : State) : Host.Outcome State Fault Refusal :=
  onEvent csRises s

/-- UNKNOWN_COMMAND (R173, R162): the COMMAND frame is admitted like any other, and LNK's check answers it when it executes. -/
def execUnknownCommand (tag : Byte) (payload : List Byte) (s : State) : Host.Outcome State Fault Refusal :=
  onMeeting (payloadMeets payload) (commandArrives tag payload) s

/-- INBOUND_BYTE (R155, R153). -/
def execInboundByte (arrival : ByteArrival) (s : State) : Host.Outcome State Fault Refusal :=
  onMeeting (byteMeets arrival.value s.part.lnk.parser) (byteArrives arrival.value arrival.pins) s

/-- CATCH_UP_COPY_FRAME (R70). -/
def execCatchUpCopyFrame (slot : Fin 4) (s : State) : Host.Outcome State Fault Refusal :=
  onEvent (copyFrame slot) s

end Sys2Proof.Machine
end

