-- ==== Sys2Proof/Machine/HostCommands.lean ====
section
/-!
DEFINITION. The meanings of the command rows of spec/opcode_table.json, one definition each: the arrival of a good COMMAND frame that
carries the command (R158, R159). It is admitted or refused, and if no command is in execution it executes in the same event.
-/

namespace Sys2Proof.Machine

/-- INQUIRE (R167). -/
def execInquire (tag : Byte) (s : State) : Host.Outcome State Fault Refusal :=
  onEvent (hostCommand tag .inquire) s

/-- STATUS (R168). -/
def execStatus (tag : Byte) (s : State) : Host.Outcome State Fault Refusal :=
  onEvent (hostCommand tag .status) s

/-- RESET_FULL (R169): RESET with mode FULL. -/
def execResetFull (tag : Byte) (s : State) : Host.Outcome State Fault Refusal :=
  onEvent (hostCommand tag (.reset 0)) s

/-- RESET_FLUSH (R170): RESET with mode FLUSH. -/
def execResetFlush (tag : Byte) (s : State) : Host.Outcome State Fault Refusal :=
  onMeeting (fun _ => true) (hostCommand tag (.reset 1)) s

/-- SAMPLING_SET (R124). -/
def execSamplingSet (tag rate : Byte) (channels : BitVec 16) (s : State) : Host.Outcome State Fault Refusal :=
  onEvent (hostCommand tag (.samplingSet rate channels)) s

/-- SAMPLING_START (R130). -/
def execSamplingStart (tag : Byte) (s : State) : Host.Outcome State Fault Refusal :=
  onEvent (hostCommand tag .samplingStart) s

/-- SAMPLING_STOP (R131). -/
def execSamplingStop (tag : Byte) (s : State) : Host.Outcome State Fault Refusal :=
  onEvent (hostCommand tag .samplingStop) s

/-- RANGE_SET (R147). -/
def execRangeSet (tag channel range : Byte) (s : State) : Host.Outcome State Fault Refusal :=
  onEvent (hostCommand tag (.rangeSet channel range)) s

/-- RANGE_MODE (R148). -/
def execRangeMode (tag channel mode : Byte) (s : State) : Host.Outcome State Fault Refusal :=
  onEvent (hostCommand tag (.rangeMode channel mode)) s

/-- CHANNEL_GET (R149). -/
def execChannelGet (tag channel : Byte) (s : State) : Host.Outcome State Fault Refusal :=
  onEvent (hostCommand tag (.channelGet channel)) s

/-- EXTLINE_SET (R44). -/
def execExtlineSet (tag line enabled edge : Byte) (s : State) : Host.Outcome State Fault Refusal :=
  onEvent (hostCommand tag (.extlineSet line enabled edge)) s

/-- DETECTOR_SET (R49). -/
def execDetectorSet (tag channel enabled : Byte) (threshold hysteresis : BitVec 16)
    (direction : Byte) (s : State) : Host.Outcome State Fault Refusal :=
  onEvent (hostCommand tag (.detectorSet channel enabled threshold hysteresis direction)) s

/-- TRIGGER (R50, R51). -/
def execTrigger (tag mask : Byte) (s : State) : Host.Outcome State Fault Refusal :=
  onEvent (hostCommand tag (.trigger mask)) s

/-- PLAN_DEFINE (R24, R25). -/
def execPlanDefine (tag plan : Byte) (definition : PlanArgs) (s : State) : Host.Outcome State Fault Refusal :=
  onEvent (hostCommand tag (.planDefine plan definition)) s

/-- PLAN_CLEAR (R33). -/
def execPlanClear (tag plan : Byte) (s : State) : Host.Outcome State Fault Refusal :=
  onEvent (hostCommand tag (.planClear plan)) s

/-- PLAN_START (R27). -/
def execPlanStart (tag plan : Byte) (s : State) : Host.Outcome State Fault Refusal :=
  onEvent (hostCommand tag (.planStart plan)) s

/-- PLAN_STOP_GRACEFUL (R29): PLAN_STOP with mode GRACEFUL. -/
def execPlanStopGraceful (tag plan : Byte) (s : State) : Host.Outcome State Fault Refusal :=
  onEvent (hostCommand tag (.planStop plan 0)) s

/-- PLAN_STOP_ABORT (R31): PLAN_STOP with mode ABORT. -/
def execPlanStopAbort (tag plan : Byte) (s : State) : Host.Outcome State Fault Refusal :=
  onEvent (hostCommand tag (.planStop plan 1)) s

/-- PLAN_GET (R34). -/
def execPlanGet (tag plan : Byte) (s : State) : Host.Outcome State Fault Refusal :=
  onEvent (hostCommand tag (.planGet plan)) s

/-- RECORD_LIST (R14). -/
def execRecordList (tag : Byte) (s : State) : Host.Outcome State Fault Refusal :=
  onEvent (hostCommand tag .recordList) s

/-- RECORD_DISCARD (R15). -/
def execRecordDiscard (tag : Byte) (id : BitVec 16) (s : State) : Host.Outcome State Fault Refusal :=
  onMeeting (fun _ => true) (hostCommand tag (.recordDiscard id)) s

/-- RECORD_RELEASE (R17). -/
def execRecordRelease (tag : Byte) (id : BitVec 16) (s : State) : Host.Outcome State Fault Refusal :=
  onEvent (hostCommand tag (.recordRelease id)) s

/-- RECORD_REPLAY (R18). -/
def execRecordReplay (tag : Byte) (id : BitVec 16) (s : State) : Host.Outcome State Fault Refusal :=
  onEvent (hostCommand tag (.recordReplay id)) s

/-- LANE_SET (R98). -/
def execLaneSet (tag lane k : Byte) (ackTimeout backoff : BitVec 16) (retryLimit : Byte) (s : State) : Host.Outcome State Fault Refusal :=
  onEvent (hostCommand tag (.laneSet lane k ackTimeout backoff retryLimit)) s

/-- LANE_CLEAR_HALT (R116). -/
def execLaneClearHalt (tag lane : Byte) (s : State) : Host.Outcome State Fault Refusal :=
  onEvent (hostCommand tag (.laneClearHalt lane)) s

/-- LANE_GET (R99). -/
def execLaneGet (tag lane : Byte) (s : State) : Host.Outcome State Fault Refusal :=
  onEvent (hostCommand tag (.laneGet lane)) s

end Sys2Proof.Machine
end

