-- ==== Sys2Proof/Machine/Dispatch.lean ====
section
/-!
DEFINITION. exec: one arm for each step of spec/opcode_table.json.
-/

namespace Sys2Proof.Machine

def exec (i : Instr) (s : State) : Host.Outcome State Fault Refusal :=
  match i with
  | .powerOn pins => Sys2Proof.Machine.execPowerOn pins s
  | .resetPin pins => Sys2Proof.Machine.execResetPin pins s
  | .extEdge line level => Sys2Proof.Machine.execExtEdge line level s
  | .tickEvent inputs => Sys2Proof.Machine.execTickEvent inputs s
  | .spanEnd channel => Sys2Proof.Machine.execSpanEnd channel s
  | .tickLimitStop => Sys2Proof.Machine.execTickLimitStop s
  | .offer => Sys2Proof.Machine.execOffer s
  | .jobExpiry => Sys2Proof.Machine.execJobExpiry s
  | .copyEnd slot => Sys2Proof.Machine.execCopyEnd slot s
  | .windowSeal slot => Sys2Proof.Machine.execWindowSeal slot s
  | .stagingEnd lane buffer => Sys2Proof.Machine.execStagingEnd lane buffer s
  | .frameStart => Sys2Proof.Machine.execFrameStart s
  | .frameComplete pins => Sys2Proof.Machine.execFrameComplete pins s
  | .ack lane seq verdict => Sys2Proof.Machine.execAck lane seq verdict s
  | .ackTimerExpiry lane => Sys2Proof.Machine.execAckTimerExpiry lane s
  | .backoffTimerExpiry lane => Sys2Proof.Machine.execBackoffTimerExpiry lane s
  | .commandFrame tag payload => Sys2Proof.Machine.execCommandFrame tag payload s
  | .frameDiscard fault tag => Sys2Proof.Machine.execFrameDiscard fault tag s
  | .gapExpiry => Sys2Proof.Machine.execGapExpiry s
  | .csRise => Sys2Proof.Machine.execCsRise s
  | .unknownCommand tag payload => Sys2Proof.Machine.execUnknownCommand tag payload s
  | .inquire tag => Sys2Proof.Machine.execInquire tag s
  | .status tag => Sys2Proof.Machine.execStatus tag s
  | .resetFull tag => Sys2Proof.Machine.execResetFull tag s
  | .resetFlush tag => Sys2Proof.Machine.execResetFlush tag s
  | .samplingSet tag rate channels => Sys2Proof.Machine.execSamplingSet tag rate channels s
  | .samplingStart tag => Sys2Proof.Machine.execSamplingStart tag s
  | .samplingStop tag => Sys2Proof.Machine.execSamplingStop tag s
  | .rangeSet tag channel range => Sys2Proof.Machine.execRangeSet tag channel range s
  | .rangeMode tag channel mode => Sys2Proof.Machine.execRangeMode tag channel mode s
  | .channelGet tag channel => Sys2Proof.Machine.execChannelGet tag channel s
  | .extlineSet tag line enabled edge => Sys2Proof.Machine.execExtlineSet tag line enabled edge s
  | .detectorSet tag channel enabled threshold hysteresis direction => Sys2Proof.Machine.execDetectorSet tag channel enabled threshold hysteresis direction s
  | .trigger tag mask => Sys2Proof.Machine.execTrigger tag mask s
  | .planDefine tag plan definition => Sys2Proof.Machine.execPlanDefine tag plan definition s
  | .planClear tag plan => Sys2Proof.Machine.execPlanClear tag plan s
  | .planStart tag plan => Sys2Proof.Machine.execPlanStart tag plan s
  | .planStopGraceful tag plan => Sys2Proof.Machine.execPlanStopGraceful tag plan s
  | .planStopAbort tag plan => Sys2Proof.Machine.execPlanStopAbort tag plan s
  | .planGet tag plan => Sys2Proof.Machine.execPlanGet tag plan s
  | .recordList tag => Sys2Proof.Machine.execRecordList tag s
  | .recordDiscard tag id => Sys2Proof.Machine.execRecordDiscard tag id s
  | .recordRelease tag id => Sys2Proof.Machine.execRecordRelease tag id s
  | .recordReplay tag id => Sys2Proof.Machine.execRecordReplay tag id s
  | .laneSet tag lane k ackTimeout backoff retryLimit => Sys2Proof.Machine.execLaneSet tag lane k ackTimeout backoff retryLimit s
  | .laneClearHalt tag lane => Sys2Proof.Machine.execLaneClearHalt tag lane s
  | .laneGet tag lane => Sys2Proof.Machine.execLaneGet tag lane s
  | .inboundByte arrival => Sys2Proof.Machine.execInboundByte arrival s
  | .catchUpCopyFrame slot => Sys2Proof.Machine.execCatchUpCopyFrame slot s

end Sys2Proof.Machine
end

