-- ==== Sys2Proof/Machine/Step.lean ====
section
/-!
DEFINITION. The step of the machine: the step at the front of the queue is taken; with none waiting, an execution ends or a millisecond passes.
-/

namespace Sys2Proof.Machine

/-- One step. With no step waiting, an execution that takes time ends, or a millisecond passes (assumptions 4, 7). -/
def step (s : State) : Host.Outcome State Fault Refusal :=
  match s.pending with
  | c :: rest => exec c { s with pending := rest }
  | [] => onEvent elapse s

/-- The state with the step that a table word spells put at the front of its queue; unchanged where the word spells none. -/
def State.withFetchWord (s : State) (nbits w : Nat) : State :=
  match decodeTableWord nbits w with
  | some c => { s with pending := c :: s.pending }
  | none => s

end Sys2Proof.Machine
end

