-- ==== Sys2Proof/Safety.lean ====
section
/-!
DEFINITION. What counts as a sound part: the conditions under which a command is taken at once, and the invariants that every step keeps.
-/

namespace Sys2Proof.Machine

/-- A state with another part and the same steps waiting. -/
abbrev State.withPart (s : State) (p : Part) : State :=
  { s with part := p }

/-! ### Commands taken at once -/

/-- A COMMAND frame with this tag is admitted and begins execution at its arrival (R159, R160, R161): the tag is not 0, no command waits
or executes, and the intake load is below 4. -/
abbrev Accepts (tag : Byte) (p : Part) : Prop :=
  tag ≠ 0 ∧ p.lnk.intake = [] ∧ p.trg.run = none ∧ p.lnk.finishing = false ∧ p.lnk.resetting = false ∧
    intakeLoad p.lnk < Config.intakePlaces

/-- A response in a reserved entry. -/
def reservedResponse (tag code : Byte) (status : Status) (results : List Byte) : Response :=
  { tag := tag, code := code, status := status, results := results, reserved := true, resetFull := false }

/-- A response in an unreserved entry: that of a frame refused at admission. -/
def immediateResponse (tag code : Byte) (status : Status) : Response :=
  { tag := tag, code := code, status := status, results := [], reserved := false, resetFull := false }

/-- A part after a command frame has been taken and its command answered: the parser is in HUNT and the response stands at the tail of
the response queue. -/
def Part.answered (tag code : Byte) (status : Status) (results : List Byte) (p : Part) : Part :=
  { p with lnk := { p.lnk with
      parser := Parser.hunting, responses := p.lnk.responses ++ [reservedResponse tag code status results] } }

/-- A part after a command frame has been taken and its command, which takes time, has had its effects (R161; assumption 7): the parser is in HUNT,
and the command stands in the intake queue until its response is queued. -/
def Part.begun (tag : Byte) (payload : List Byte) (p : Part) : Part :=
  { p with lnk := { p.lnk with
      parser := Parser.hunting, intake := [{ tag := tag, payload := payload }], finishing := true } }

/-- The row of spec/opcode_table.json that stands for the arrival of a good COMMAND frame carrying a command; RESET and PLAN_STOP have one row
for each of their modes, and none for a mode byte that names no mode. -/
def commandRow (tag : Byte) : Command → Option Instr
  | .inquire => some (.inquire tag)
  | .status => some (.status tag)
  | .reset mode => if mode = 0 then some (.resetFull tag) else if mode = 1 then some (.resetFlush tag) else none
  | .samplingSet rate channels => some (.samplingSet tag rate channels)
  | .samplingStart => some (.samplingStart tag)
  | .samplingStop => some (.samplingStop tag)
  | .rangeSet channel range => some (.rangeSet tag channel range)
  | .rangeMode channel mode => some (.rangeMode tag channel mode)
  | .channelGet channel => some (.channelGet tag channel)
  | .extlineSet line enabled edge => some (.extlineSet tag line enabled edge)
  | .detectorSet channel enabled threshold hysteresis direction =>
    some (.detectorSet tag channel enabled threshold hysteresis direction)
  | .trigger mask => some (.trigger tag mask)
  | .planDefine plan definition => some (.planDefine tag plan definition)
  | .planClear plan => some (.planClear tag plan)
  | .planStart plan => some (.planStart tag plan)
  | .planStop plan mode =>
    if mode = 0 then some (.planStopGraceful tag plan) else if mode = 1 then some (.planStopAbort tag plan) else none
  | .planGet plan => some (.planGet tag plan)
  | .recordList => some (.recordList tag)
  | .recordDiscard id => some (.recordDiscard tag id)
  | .recordRelease id => some (.recordRelease tag id)
  | .recordReplay id => some (.recordReplay tag id)
  | .laneSet lane k ackTimeout backoff retryLimit => some (.laneSet tag lane k ackTimeout backoff retryLimit)
  | .laneClearHalt lane => some (.laneClearHalt tag lane)
  | .laneGet lane => some (.laneGet tag lane)

/-- The lanes at which the event of a step may meet the arbiter's start of a DATA frame and be taken before it (R97, R106, R109, R113, R118): an ACK at
its own lane; RECORD_DISCARD and RESET FLUSH, as rows of their own or in a COMMAND frame, at either; and the byte that ends such a frame. Every other
step finds the due start made. -/
def meetingLanes (p : Part) : Instr → Fin 2 → Bool
  | .ack lane _ _ => ackMeets lane
  | .recordDiscard _ _ => fun _ => true
  | .resetFlush _ => fun _ => true
  | .commandFrame _ payload => payloadMeets payload
  | .unknownCommand _ payload => payloadMeets payload
  | .inboundByte arrival => byteMeets arrival.value p.lnk.parser
  | _ => fun _ => false

/-- The command table of section 10.2: the payload length of each command code, the code included. -/
def commandLength (code : Byte) : Option Nat :=
  match code.toNat with
  | 0x01 => some 1
  | 0x02 => some 1
  | 0x03 => some 2
  | 0x10 => some 4
  | 0x11 => some 1
  | 0x12 => some 1
  | 0x18 => some 3
  | 0x19 => some 3
  | 0x1A => some 2
  | 0x20 => some 4
  | 0x21 => some 8
  | 0x22 => some 2
  | 0x30 => some 18
  | 0x31 => some 2
  | 0x32 => some 2
  | 0x33 => some 3
  | 0x34 => some 2
  | 0x40 => some 1
  | 0x41 => some 3
  | 0x42 => some 3
  | 0x43 => some 3
  | 0x50 => some 8
  | 0x51 => some 2
  | 0x52 => some 2
  | _ => none

/-! ### Offers -/

/-- A plan with this definition watches a source of the offer; SOFT counts only for a plan in the SOFT mask (R36). -/
abbrev Watches (o : Offer) (d : PlanDef) (i : Fin 8) : Prop :=
  ∃ n : Fin 13, d.sources.getLsbD n.val = true ∧ o.sources.getLsbD n.val = true ∧
    (n.val = 12 → (o.softMask.getD 0).getLsbD i.val = true)

/-- An offer is handed to a plan (R36): it is RUNNING, was not started after the offer was formed (R54), and watches one of its sources. -/
abbrev HandedTo (o : Offer) (pl : Plan) (i : Fin 8) : Prop :=
  pl.state = .running ∧ o.unseenBy.getLsbD i.val = false ∧ ∃ d : PlanDef, pl.definition = some d ∧ Watches o d i

/-- How plan `i` judges an offer on the part that the plans before it have left (R36, R37): absent if the offer is not handed to it, else the first of the
four checks that applies. -/
def offerVerdict (o : Offer) (i : Fin 8) (p : Part) : Option Judgement :=
  match p.plans[i].definition with
  | none => none
  | some d =>
    if p.plans[i].state = .running ∧ o.unseenBy.getLsbD i.val = false ∧ Watches o d i then
      if p.plans[i].lastAccepted.any (fun t => decide (o.tick < t + d.holdoff)) then some .ignored
      else if (p.plans[i].openRecord ≠ none ∨ ∃ j ∈ p.jobs, j.plan = i) ∧ d.policy = .drop then some (.dropped .busy)
      else if 8 ≤ p.jobs.length then some (.dropped .queueFull)
      else some .accepted
    else none

/-- What the judgement by plan `i` leaves (R37, R28, R35): a count, a count with its report, or the job at the tail of the queue, with the plan's last
accepted tick, a shot taken, and DRAINING at the last shot. -/
def afterVerdict (o : Offer) (i : Fin 8) (p : Part) : Part :=
  let pl := p.plans[i]
  match offerVerdict o i p with
  | none => p
  | some .ignored => { p with plans := p.plans.set i.val { pl with counters := { pl.counters with
      ignoredHoldoff := min (pl.counters.ignoredHoldoff + 1) 65535 } } }
  | some (.dropped .busy) =>
    postReport (.jobDropped i o.tick o.sources .busy) { p with plans := p.plans.set i.val { pl with counters := { pl.counters with
      droppedBusy := min (pl.counters.droppedBusy + 1) 65535 } } }
  | some (.dropped .queueFull) =>
    postReport (.jobDropped i o.tick o.sources .queueFull) { p with plans := p.plans.set i.val { pl with counters := { pl.counters with
      droppedFull := min (pl.counters.droppedFull + 1) 65535 } } }
  | some .accepted => { p with
      jobs := p.jobs ++ [{ plan := i, sources := o.sources, tick := o.tick }]
      plans := p.plans.set i.val { pl with
        lastAccepted := some o.tick
        shots := match pl.shots with
          | .count n => .count (n - 1)
          | .unlimited => .unlimited
        state := if pl.shots = .count 0 ∨ pl.shots = .count 1 then .draining else .running
        counters := { pl.counters with accepted := min (pl.counters.accepted + 1) 65535 } } }

/-- The part that the judgements by the plans below `n`, in ascending index, have left (R54, R55). -/
def judgedBelow (o : Offer) (p : Part) (n : Nat) : Part :=
  ((List.finRange 8).take n).foldl (fun q i => afterVerdict o i q) p

/-! ### Windows -/

/-- The ID that the record ID counter gives next (R11): the first, from the counter on and after 65,535 from 1, that no live record has. -/
abbrev TakesId (p : Part) (id : Nat) : Prop :=
  ∃ k : Nat, id = (p.nextId - 1 + k) % 65535 + 1 ∧ (∀ r ∈ p.records, r.id ≠ id) ∧
    ∀ m : Nat, m < k → ∃ r ∈ p.records, r.id = (p.nextId - 1 + m) % 65535 + 1

/-- What a round of a re-examination needs (R62, R66, R67): a lowest free slot `w`; the oldest job `j` whose plan has no OPEN record and whose tick
history holds, behind `older`; its plan's definition `d`; the largest actual pre length `pre` that history allows; a free record slot and
enough free blocks. -/
structure OpensNext (p : Part) (w : Fin 4) (older : List Job) (j : Job) (younger : List Job) (d : PlanDef) (pre newest : Nat) : Prop where
  freeSlot : p.slots[w] = none ∧ ∀ v : Fin 4, v < w → p.slots[v].isSome = true
  sampled : p.smp.newest = some newest
  queue : p.jobs = older ++ j :: younger
  notReady : ∀ x ∈ older, p.plans[x.plan].openRecord ≠ none ∨ x.tick < newest - 16383 ∨ newest < x.tick
  ready : p.plans[j.plan].openRecord = none ∧ newest - 16383 ≤ j.tick ∧ j.tick ≤ newest
  definition : p.plans[j.plan].definition = some d
  aligned : pre % d.decimation = 0
  retained : pre ≤ d.pre ∧ pre ≤ j.tick - (newest - 16383)
  largest : ∀ m : Nat, m % d.decimation = 0 → m ≤ d.pre → m ≤ j.tick - (newest - 16383) → m ≤ pre
  recordSlot : p.records.length < 32
  memory : ((channelList d.channels).length * ((pre + d.post) / d.decimation) + 255) / 256 ≤ p.freeList.length

/-- The record of a window as a seal leaves it in its delivery queue (R73, R74, R75): SEALED, CLIPPED by the window's mark, its chain trimmed to its
words; a seal before the end marks it TRUNCATED and keeps the segments that begin at a stored frame, the first in any case. -/
def sealedAs (x : Window) (r : Record) : Record :=
  { r with
    state := .sealed
    flags := { r.flags with truncated := r.flags.truncated || decide (x.phase ≠ .ended), clipped := r.flags.clipped || x.clipped }
    segments := if x.phase = .ended then r.segments else
      r.segments.map (fun segs => segs.take 1 ++ (segs.drop 1).filter (fun g => decide (g.frame < r.frames)))
    chain := r.chain.take ((r.words + 255) / 256) }

/-- A record as it becomes its lane's current record (R84, R10). -/
def sendingOf (r : Record) : Record :=
  { r with state := .sending, deliveries := min (r.deliveries + 1) 255 }

/-- A lane after the staging of a record's header has begun in buffer `b` (R84, R85, R87, R88): the record is current, its total packets taken
from the lane's packet size, and the header packet in the buffer carries the record as it is SENDING. -/
def headerStaged (b : Fin 2) (r : Record) (ln : Lane) : Lane :=
  let size := 64 * ln.config.k
  let total := (2 * r.words + size - 1) / size + 1
  let bytes := headerBytes (sendingOf r) size total
  { ln with
    current := some { recordId := r.id, total := total, next := 1 }
    buffers := ln.buffers.set b.val (.filling
      { recordId := r.id, index := 0, total := total, valid := bytes.length, bytes := bytes }) }

/-- The records and the lanes as the seal of the window `x` leaves them (R73 step 6, R83, R88): its record as sealed, at the tail of its lane's
queue, and the lane's check of its staging. -/
def handedOver (x : Window) (p : Part) : Part :=
  match findRecord p x.recordId with
  | none => p
  | some r =>
    let ln := p.lanes[r.lane]
    beginStaging r.lane { p with
      records := modifyFirst (fun y => y.id == x.recordId) (sealedAs x) p.records
      lanes := p.lanes.set r.lane.val { ln with queue := ln.queue ++ [r.id] } }

/-- What steps 1 to 6 of the seal of the window `x` with the record `r` leave of the part `p` in the part `q` (R73, R74, R75, R4, R68). -/
structure SealedFrom (w : Fin 4) (x : Window) (r : Record) (p q : Part) : Prop where
  record : (findRecord q x.recordId = some (sealedAs x r) ∧ x.recordId ∈ q.lanes[r.lane].queue) ∨
    findRecord q x.recordId = some (sendingOf (sealedAs x r))
  header : (let ln := p.lanes[r.lane]
    ln.current = none → ln.queue = [] → ln.awaiting = none → ln.buffers[ln.seq] = .empty →
      findRecord q x.recordId = some (sendingOf (sealedAs x r)) ∧
        q.lanes[r.lane] = headerStaged ln.seq (sealedAs x r) ln)
  otherRecords : ∀ id : Nat, id ≠ x.recordId → id ∉ p.lanes[r.lane].queue → findRecord q id = findRecord p id
  otherLane : q.lanes[1 - r.lane] = p.lanes[1 - r.lane]
  handOver : q.records = (handedOver x p).records ∧ q.lanes = (handedOver x p).lanes
  freeList : q.freeList = p.freeList ++ r.chain.drop ((r.words + 255) / 256)
  locks : ∀ c : Fin 8, q.channels[c] = { p.channels[c] with
    lockCount := p.channels[c].lockCount - (if x.channels.getLsbD c.val then 1 else 0) }
  plans : q.plans = p.plans.set x.plan.val { p.plans[x.plan] with openRecord := none }
  reports : q.lnk = (postReport (.recordSealed r.id r.plan r.lane (sealedAs x r).flags r.words) p).lnk
  rest : q = { p with
    channels := q.channels, plans := q.plans, slots := p.slots.set w.val none, freeList := q.freeList
    records := q.records, lanes := q.lanes, lnk := q.lnk }

/-- The reports of an expiry by history in their order (R63, R30): JOB_EXPIRED for each job gone, followed by the PLAN_STATE of a DRAINING plan
that it leaves with no pending job and no OPEN record. -/
def expiryReports (p : Part) (oldest : Nat) : List Job → List Report
  | [] => []
  | j :: gone =>
    .jobExpired j.plan j.tick .history ::
      (if p.plans[j.plan].state = .draining ∧ p.plans[j.plan].openRecord = none ∧ (∀ k ∈ gone, k.plan ≠ j.plan) ∧
          (∀ k ∈ p.jobs, k.plan = j.plan → k.tick < oldest) then [.planState j.plan .done none 0] else []) ++
      expiryReports p oldest gone

/-- Reports posted one after another. -/
def postReports (reports : List Report) (p : Part) : Part :=
  reports.foldl (fun q r => postReport r q) p

/-! ### What a stop of the Sampler leaves -/

/-- The window slots' records are of distinct IDs. -/
abbrev WindowsDistinct (p : Part) : Prop :=
  ∀ (v w : Fin 4) (x y : Window), v ≠ w → p.slots[v] = some x → p.slots[w] = some y → x.recordId ≠ y.recordId

/-- The reports of a stop of the Sampler in their order (R131 steps 2 to 5): JOB_EXPIRED of each job in queue order, RECORD_SEALED of each window in slot
order, PLAN_STATE of each RUNNING or DRAINING plan in plan order, RANGE_SETTLED of each ONCE pass in channel order. -/
def stopReports (p : Part) : List Report :=
  p.jobs.map (fun j => .jobExpired j.plan j.tick .samplingStopped) ++
    p.slots.toList.flatMap (fun o => match o with
      | none => []
      | some x => match findRecord p x.recordId with
        | none => []
        | some r => [.recordSealed r.id r.plan r.lane (sealedAs x r).flags r.words]) ++
    (List.finRange 8).flatMap (fun i => if p.plans[i].state = .running ∨ p.plans[i].state = .draining then
      [.planState i .halted (some .samplingStopped) 0] else []) ++
    (List.finRange 8).flatMap (fun c => if p.channels[c].mode = .once then [.rangeSettled c p.channels[c].range .cancelled] else [])

/-- What steps 1 to 5 of a stop leave of the part `p` in the part `t` (R131, R132, R39, R45, R74, R146). -/
structure StoppedFrom (p t : Part) : Prop where
  sampler : t.smp = { p.smp with running := false }
  latches : ∀ l : Fin 4, t.lines[l] = { p.lines[l] with latch := false }
  noJob : t.jobs = []
  noWindow : ∀ w : Fin 4, t.slots[w] = none
  halted : ∀ i : Fin 8, p.plans[i].state = .running ∨ p.plans[i].state = .draining →
    t.plans[i] = { p.plans[i] with
      state := .halted, haltReason := some .samplingStopped, openRecord := none
      counters := { p.plans[i].counters with
        expired := (if p.jobsPending i = 0 then p.plans[i].counters.expired
          else min (p.plans[i].counters.expired + p.jobsPending i) 65535) } }
  otherPlans : ∀ i : Fin 8, p.plans[i].state ≠ .running ∧ p.plans[i].state ≠ .draining → t.plans[i] = p.plans[i]
  expired : p.lnk.reports.length + p.jobs.length ≤ 16 →
    (t.lnk.reports.map (fun q => q.report)).take (p.lnk.reports.length + p.jobs.length) =
      p.lnk.reports.map (fun q => q.report) ++ p.jobs.map (fun j => .jobExpired j.plan j.tick .samplingStopped)
  reports : WindowsDistinct p →
    t.lnk.reports = (postReports (stopReports p) p).lnk.reports ∧ t.lnk.lost = (postReports (stopReports p) p).lnk.lost
  handOvers : (let u := p.slots.toList.foldl (fun q o => match o with
      | none => q
      | some x => handedOver x q) p
    t.records = u.records ∧ t.lanes = u.lanes)
  records : WindowsDistinct p → ∀ (w : Fin 4) (x : Window) (r : Record), p.slots[w] = some x →
    findRecord p x.recordId = some r → (∀ l : Fin 2, x.recordId ∉ p.lanes[l].queue) →
    (findRecord t x.recordId = some (sealedAs x r) ∧ x.recordId ∈ t.lanes[r.lane].queue) ∨
      findRecord t x.recordId = some (sendingOf (sealedAs x r))
  otherRecords : ∀ id : Nat, (∀ (w : Fin 4) (x : Window), p.slots[w] = some x → x.recordId ≠ id) →
    (∀ l : Fin 2, id ∉ p.lanes[l].queue) → findRecord t id = findRecord p id
  trimmed : WindowsDistinct p → t.freeList = p.freeList ++ p.slots.toList.flatMap (fun o =>
    match o.bind (fun x => findRecord p x.recordId) with
    | some r => r.chain.drop ((r.words + 255) / 256)
    | none => [])
  channels : ∀ c : Fin 8, t.channels[c] = { p.channels[c] with
    lockCount := p.channels[c].lockCount -
      (p.slots.toList.filter (fun o => o.any (fun w => w.channels.getLsbD c.val))).length
    mode := if p.channels[c].mode = .once then .manual else p.channels[c].mode
    counted := if p.channels[c].mode = .once then none else p.channels[c].counted }
  history : t.history = p.history ∧ t.fill = p.fill
  recordMemory : t.blocks = p.blocks ∧ t.nextId = p.nextId ∧ t.records.map (fun r => r.id) = p.records.map (fun r => r.id)
  detectors : t.detectors = p.detectors

/-! ### Invariants -/

/-- Every block is on the free list or in one record's chain, and in one place only (R1). -/
abbrev BlocksConserved (p : Part) : Prop :=
  List.Perm (p.freeList ++ p.records.flatMap (fun r => r.chain)) (List.range 1024)

/-- Both memories keep their canonical form. -/
abbrev MemoriesCanonical (p : Part) : Prop :=
  Memory.wf p.history ∧ Memory.wf p.blocks

/-- At most 32 live records, with distinct IDs in 1..65,535, as is the record ID counter (R8, R11). -/
abbrev RecordIdsSound (p : Part) : Prop :=
  (p.records.map (fun r => r.id)).Nodup ∧ (∀ r ∈ p.records, 1 ≤ r.id ∧ r.id ≤ 65535) ∧ p.records.length ≤ 32 ∧
    1 ≤ p.nextId ∧ p.nextId ≤ 65535

/-- The ack timer of a lane runs only in AWAITING, its backoff timer only in BACKOFF (R111, R112). -/
abbrev LaneTimersSound (p : Part) : Prop :=
  ∀ l : Fin 2, (p.lanes[l].ackTimer.isSome = true → p.lanes[l].state = .awaiting) ∧
    (p.lanes[l].backoffTimer.isSome = true → p.lanes[l].state = .backoff)

/-- Every queue of CAP and LNK is within its places (R59, R160, R163, R164): the response queue within eight, four of them reserved, where the OK of a
RESET FULL in execution takes its command's place; and of the executions that last, at most one is under way, with its command in the intake
queue. -/
abbrev QueuesWithinCapacity (p : Part) : Prop :=
  intakeLoad p.lnk ≤ 4 ∧ unreservedInUse p.lnk ≤ 4 ∧ reservedInUse p.lnk ≤ 4 ∧ p.lnk.responses.length ≤ 8 ∧
    (p.lnk.responses.filter (fun r => r.resetFull)).length ≤ (if p.lnk.resetting then 1 else 0) ∧
    (p.trg.run.isSome.toNat + p.lnk.finishing.toNat + p.lnk.resetting.toNat ≤ 1) ∧
    (p.trg.run.isSome = true ∨ p.lnk.finishing = true ∨ p.lnk.resetting = true → p.lnk.intake ≠ []) ∧
    p.lnk.reports.length ≤ 16 ∧ p.lnk.lost ≤ 255 ∧ p.jobs.length ≤ 8

/-- The lock count of a channel is the number of windows that include it (R68, R143). -/
abbrev LocksCountWindows (p : Part) : Prop :=
  ∀ c : Fin 8, p.channels[c].lockCount =
    (p.slots.toList.filter (fun o => o.any (fun w => w.channels.getLsbD c.val))).length

/-- A plan's OPEN record has a window of the plan in a slot, and a plan that is neither RUNNING nor DRAINING has no OPEN record and no
pending job (R23, R26). -/
abbrev PlansAccounted (p : Part) : Prop :=
  ∀ i : Fin 8, (p.plans[i].openRecord.isSome = true → ∃ w : Fin 4, (p.slots[w]).any (fun x => x.plan == i) = true) ∧
    (p.plans[i].state ≠ .running ∧ p.plans[i].state ≠ .draining → p.plans[i].openRecord = none ∧ p.jobsPending i = 0)

end Sys2Proof.Machine
end

