-- ==== Sys2Proof/Certificates/Slice0/Obligations.lean ====
section
/-!
DEFINITION. The statements for the provers. Each is about the part of the state that a step's rule names and, as its frame, about what the
step leaves alone: a next state written as the old one with the changed fields says both at once. Every step keeps the queue's rest, which
the equation with `s.withPart` says. An event is taken on the part `p = arbitrated s.part`, with the frame start that is due already made, and an
event that may meet the start of a DATA frame on `p = partFound lanes s.part`, with `startAfter lanes s.part` of what it leaves: what these are,
FrameStartFollowsTheArbiterOrder says.
-/

open Sys2Proof Sys2Proof.Machine

/-! ### The machine -/

/-- The step at the front of the queue is taken, with the queue's rest; it always completes, and nothing else joins or leaves the queue. The queue
is the model's (assumption 17). -/
def Obligations.StepTakesTheFrontOfTheQueue : Prop :=
  ∀ (c : Instr) (s : State) (rest : List Instr),
    step { s with pending := c :: rest } = exec c { s with pending := rest } ∧
      ∃ p : Part, exec c { s with pending := rest } = .next { part := p, pending := rest }

/-- State.reset holds the values the spec gives for a device reset (R20, R41, R58, R101, R135, R151, R171), and it satisfies every invariant below.
The transport and the reference levels of the lines, which the pins decide, are left out. -/
def Obligations.ResetHoldsTheSpecValues : Prop :=
  (State.reset.pending = [] ∧
  State.reset.part.smp = { running := false, rateCode := 3, enabled := 0xFF, tickCounter := 0, newest := none } ∧
  (∀ c : Fin 8, State.reset.part.fill[c] = 0 ∧
    State.reset.part.channels[c] = {
      range := 0, mode := .manual, counted := none, spanPos := 0, spanPeak := 0,
      spanClip := false, arriving := none, log := [], baseRange := 0, baseTick := 0, lockCount := 0 } ∧
    State.reset.part.detectors[c] =
      { enabled := false, threshold := 0, hysteresis := 0, direction := .rising, state := .unknown }) ∧
  (∀ l : Fin 4, State.reset.part.lines[l].enabled = false ∧ State.reset.part.lines[l].edge = .rising ∧
    State.reset.part.lines[l].latch = false) ∧
  State.reset.part.trg = { run := none, offerCount := 0, lastOffer := none, offers := [] } ∧
  (∀ i : Fin 8, State.reset.part.plans[i] = {
    state := .empty, definition := none, haltReason := none,
    shots := .count 0, lastAccepted := none, openRecord := none,
    counters := { accepted := 0, droppedBusy := 0, droppedFull := 0, ignoredHoldoff := 0, expired := 0 } }) ∧
  State.reset.part.jobs = [] ∧ (∀ w : Fin 4, State.reset.part.slots[w] = none) ∧
  State.reset.part.freeList = List.range 1024 ∧ State.reset.part.records = [] ∧ State.reset.part.nextId = 1 ∧
  (∀ l : Fin 2, State.reset.part.lanes[l] = {
    state := .idle, halt := none, queue := [], current := none, seq := 0,
    resync := true, buffers := #v[.empty, .empty], awaiting := none, releasing := none, flushed := false, haltNoted := false, retries := 0,
    ackTimer := none, backoffTimer := none,
    config := { k := 8, ackTimeout := 50, backoffInterval := 10, retryLimit := 3 },
    counters := { transmissions := 0, resends := 0, stale := 0, completed := 0 } }) ∧
  State.reset.part.lnk.parser.state = .hunt ∧ State.reset.part.lnk.intake = [] ∧ State.reset.part.lnk.finishing = false ∧
  State.reset.part.lnk.resetting = false ∧ State.reset.part.lnk.responses = [] ∧
  State.reset.part.lnk.reports = [{ lost := 0, report := .resetDone .power }] ∧ State.reset.part.lnk.lost = 0 ∧
  State.reset.part.lnk.turn = 0 ∧ State.reset.part.lnk.inFlight = none ∧
  State.reset.part.lnk.errors = { length := 0, crc := 0, kind := 0, gap := 0, cut := 0, noRoom := 0 }) ∧
  (BlocksConserved State.reset.part ∧ MemoriesCanonical State.reset.part ∧ RecordIdsSound State.reset.part ∧
    LaneTimersSound State.reset.part ∧ QueuesWithinCapacity State.reset.part ∧ LocksCountWindows State.reset.part ∧
    PlansAccounted State.reset.part)

/-- POWER_ON and RESET_PIN perform a device reset, whatever the state before (R171, R20, R152, R58): the straps and the lines are read, and
RESET_DONE with the cause is the one report that waits. That the
codes of history and, over a power-on, the words of the blocks stay is the model's choice (assumption 1). -/
def Obligations.PowerAndPinResetTheDevice : Prop :=
  ∀ (s : State) (pins : ResetPins) (step : Instr) (cause : ResetCause),
    (step = .powerOn pins ∧ cause = .power) ∨ (step = .resetPin pins ∧ cause = .pin) →
    ∃ t : Part, exec step s = .next (s.withPart t) ∧
      t.smp = State.reset.part.smp ∧ t.fill = State.reset.part.fill ∧ t.channels = State.reset.part.channels ∧
      t.detectors = State.reset.part.detectors ∧ t.trg = State.reset.part.trg ∧ t.plans = State.reset.part.plans ∧
      t.jobs = [] ∧ t.slots = State.reset.part.slots ∧ t.freeList = List.range 1024 ∧ t.records = [] ∧ t.nextId = 1 ∧
      t.lanes = State.reset.part.lanes ∧ t.history = s.part.history ∧ t.blocks = s.part.blocks ∧
      (∀ l : Fin 4, t.lines[l] =
        { enabled := false, edge := .rising, level := pins.ext[l], reference := pins.ext[l], latch := false }) ∧
      t.lnk = { State.reset.part.lnk with
        transport := if pins.spi then .spi else
          .uart (match pins.baud1, pins.baud0 with
            | false, false => 0
            | false, true => 1
            | true, false => 2
            | true, true => 3)
        reports := [{ lost := 0, report := .resetDone cause }] }

/-- A step with no step waiting: what comes about by time (assumption 4). With a command that takes time in execution, its OK is queued and the
commands behind it execute (R161; assumption 7). Otherwise a millisecond passes
(R111, R112, R107, R156): a running ack or backoff timer counts down and at 0 expires, and under UART the gap timer of a frame in the parser counts
up and discards the frame after more than 5 ms. Commands execute from the head of the intake queue, one after another, while none of them stays in
execution. -/
def Obligations.IdleStepEndsAnExecutionOrPassesAMillisecond : Prop :=
  (∀ (s : State) (p : Part), arbitrated s.part = p → s.pending = [] →
    (∀ (c : IntakeCommand) (behind : List IntakeCommand), p.lnk.finishing = true → p.lnk.intake = c :: behind →
      step s = .next (s.withPart (drain { p with lnk := { p.lnk with
        finishing := false
        intake := behind
        responses := p.lnk.responses ++ [reservedResponse c.tag (payloadCode c.payload) .ok []] } }))) ∧
    (p.lnk.finishing = false → LaneTimersSound p →
      let halts : Fin 2 → Bool := fun l => decide (p.lanes[l].ackTimer.any (fun n => decide (n ≤ 1)) = true ∧
        p.lanes[l].config.retryLimit < p.lanes[l].retries + 1)
      let cut : Bool := decide (p.lnk.transport ≠ .spi ∧ p.lnk.parser.state ≠ .hunt ∧ 5 ≤ p.lnk.parser.gap)
      let reports : List Report :=
        (([0, 1] : List (Fin 2)).filter halts).map (fun l => .laneHalted l .retryLimit p.lanes[l].seq
          (p.lanes[l].awaiting.map (fun a => (a.recordId, a.index))) (p.lanes[l].retries + 1)) ++
        (if cut then [.linkError .gap (p.lnk.parser.kept[3]?)] else [])
      ∃ t : Part, step s = .next (s.withPart t) ∧
        (∀ l : Fin 2, t.lanes[l] =
          let ln := p.lanes[l]
          match ln.ackTimer, ln.backoffTimer with
          | some n, _ =>
            if 1 < n then { ln with ackTimer := some (n - 1) }
            else if halts l then { ln with
              state := .halted, halt := some .retryLimit, haltNoted := false, retries := ln.retries + 1
              ackTimer := none, backoffTimer := none }
            else { ln with state := .ready, retries := ln.retries + 1, ackTimer := none }
          | none, some n =>
            if 1 < n then { ln with backoffTimer := some (n - 1) } else { ln with state := .ready, backoffTimer := none }
          | none, none => ln) ∧
        t.lnk = { p.lnk with
          parser := if cut then Parser.hunting
            else if p.lnk.transport ≠ .spi ∧ p.lnk.parser.state ≠ .hunt then { p.lnk.parser with gap := p.lnk.parser.gap + 1 }
            else p.lnk.parser
          errors := if cut then { p.lnk.errors with gap := min (p.lnk.errors.gap + 1) 65535 } else p.lnk.errors
          reports := (postReports reports p).lnk.reports
          lost := (postReports reports p).lnk.lost } ∧
        t = { p with lanes := t.lanes, lnk := t.lnk })) ∧
  (∀ p : Part, p.lnk.intake = [] ∨ executing p = true → drain p = p) ∧
  (∀ (p : Part) (c : IntakeCommand) (behind : List IntakeCommand), p.lnk.intake = c :: behind → executing p = false →
    drain p = drain (applyReply (runPayload c.payload p)))

/-! ### TRG: lines, sources and offers -/

/-- EXT_EDGE (R42): every edge updates the reference level, and an accepted one sets the latch. -/
def Obligations.ExtEdgeUpdatesLevelAndLatch : Prop :=
  ∀ (s : State) (p : Part) (n : Fin 4) (level : Bool), arbitrated s.part = p →
    let x := p.lines[n]
    exec (.extEdge n level) s = .next (s.withPart { p with
      lines := p.lines.set n.val { x with
        level := level
        reference := level
        latch := x.latch || (decide (x.reference ≠ level) && x.enabled && p.smp.running &&
          (decide (x.edge = .both) || (decide (x.edge = .rising) && level) || (decide (x.edge = .falling) && !level))) } })

/-- EXTLINE_SET (R44), DETECTOR_SET (R49) and TRIGGER (R50, R51), in every state of the part that takes a command. A line's settings are written, its
reference level taken from the line and its latch cleared; a detector's four settings are written and it is UNKNOWN; an argument outside its
values is BAD_ARG. A TRIGGER with an empty mask is BAD_ARG; a STOPPED Sampler refuses one with the tick absent and both masks empty; otherwise
it stays in execution with its mask. -/
def Obligations.TriggerUnitCommandsWriteTheirSettings : Prop :=
  ∀ (s : State) (p : Part) (tag : Byte), arbitrated s.part = p → Accepts tag p →
    (∀ (line enabled edge : Byte),
      exec (.extlineSet tag line enabled edge) s = .next (s.withPart (
        if h : line.toNat < 4 then
          if enabled.toNat ≤ 1 ∧ edge.toNat ≤ 2 then
            let x := p.lines[line.toNat]
            Part.answered tag 0x20 .ok [] { p with lines := p.lines.set line.toNat { x with
              enabled := decide (enabled = 1)
              edge := if edge = 0 then .rising else if edge = 1 then .falling else .both
              reference := x.level
              latch := false } }
          else Part.answered tag 0x20 .badArg [] p
        else Part.answered tag 0x20 .badArg [] p))) ∧
    (∀ (channel enabled : Byte) (threshold hysteresis : BitVec 16) (direction : Byte),
      exec (.detectorSet tag channel enabled threshold hysteresis direction) s = .next (s.withPart (
        if h : channel.toNat < 8 then
          if enabled.toNat ≤ 1 ∧ hysteresis.toNat ≤ 4095 ∧ direction.toNat ≤ 2 then
            Part.answered tag 0x21 .ok [] { p with detectors := p.detectors.set channel.toNat {
              enabled := decide (enabled = 1)
              threshold := threshold
              hysteresis := hysteresis.toNat
              direction := if direction = 0 then .rising else if direction = 1 then .falling else .either
              state := .unknown } }
          else Part.answered tag 0x21 .badArg [] p
        else Part.answered tag 0x21 .badArg [] p))) ∧
    (∀ mask : Byte,
      exec (.trigger tag mask) s = .next (s.withPart (
        if mask = 0 then Part.answered tag 0x22 .badArg [] p
        else if p.smp.running = false then Part.answered tag 0x22 .badState [0, 0, 0, 0, 0, 0, 0, 0, 0] p
        else { p with
          trg := { p.trg with run := some { mask := mask, firedAt := none } }
          lnk := { p.lnk with parser := Parser.hunting, intake := [{ tag := tag, payload := [0x22, mask] }] } })))

/-- TICK_EVENT forms one offer of all the sources that fire, or none (R43, R47, R51, R53, R57): an enabled line with its latch set; an
enabled detector of an enabled channel whose code crosses its bound in its direction; SOFT for a TRIGGER in execution that has not fired.
The enabled lines' latches are cleared. The part is taken as RNG leaves it once it has taken the codes of earlier ticks (R140). That a
formed offer waits for the OFFER step is the model's reading (assumption 11). -/
def Obligations.TickEventFormsOneOffer : Prop :=
  ∀ (s : State) (p : Part) (inputs : Vector Int 8), arbitrated s.part = p → p.smp.running = true →
    p.smp.newest ≠ some Config.lastTick →
    let q := settleSpans p
    let codes := sampledCodes inputs q
    let tick := p.smp.tickCounter
    let soft := match p.trg.run with
      | some r => if r.firedAt = none then some r.mask else none
      | none => none
    ∃ (t : Part) (fired : SourceSet), exec (.tickEvent inputs) s = .next (s.withPart t) ∧
      (∀ l : Fin 4, fired.getLsbD l.val = (p.lines[l].enabled && p.lines[l].latch)) ∧
      (∀ c : Fin 8, fired.getLsbD (4 + c.val) = true ↔
        q.detectors[c].enabled = true ∧ p.smp.enabled.getLsbD c.val = true ∧
          ((q.detectors[c].state = .below ∧ q.detectors[c].direction ≠ .falling ∧
              q.detectors[c].threshold.toInt + q.detectors[c].hysteresis < codes[c].toInt) ∨
            (q.detectors[c].state = .above ∧ q.detectors[c].direction ≠ .rising ∧
              codes[c].toInt < q.detectors[c].threshold.toInt - q.detectors[c].hysteresis))) ∧
      fired.getLsbD 12 = soft.isSome ∧
      (∀ l : Fin 4, t.lines[l] = { p.lines[l] with latch := p.lines[l].latch && !p.lines[l].enabled }) ∧
      (∀ c : Fin 8, t.detectors[c] =
        if q.detectors[c].enabled = true ∧ p.smp.enabled.getLsbD c.val = true then
          { q.detectors[c] with state :=
            match q.detectors[c].state with
            | .unknown => if q.detectors[c].threshold.toInt ≤ codes[c].toInt then .above else .below
            | .below => if q.detectors[c].threshold.toInt + q.detectors[c].hysteresis < codes[c].toInt then .above else .below
            | .above => if codes[c].toInt < q.detectors[c].threshold.toInt - q.detectors[c].hysteresis then .below else .above }
        else q.detectors[c]) ∧
      t.trg = if fired = 0 then p.trg else
        { run := p.trg.run.map (fun r => { r with firedAt := if r.firedAt = none then some tick else r.firedAt })
          offerCount := min (p.trg.offerCount + 1) 4294967295
          lastOffer := some (tick, fired)
          offers := p.trg.offers ++ [{ tick := tick, sources := fired, softMask := soft, unseenBy := 0 }] }

/-- OFFER with no TRIGGER waiting for its tick (R36, R37, R28, R54, R61). An offer handed to no plan leaves every plan and the Pending Job Queue as they
were. One handed to a single plan is ignored inside the holdoff, dropped BUSY, dropped QUEUE_FULL or accepted, in that order of checks; no other
plan changes; and after an acceptance the queue is re-examined. -/
def Obligations.OfferIsJudgedByTheRunningPlan : Prop :=
  ∀ (s : State) (p : Part) (o : Offer) (rest : List Offer), arbitrated s.part = p → p.trg.offers = o :: rest →
    (∀ r : TriggerRun, p.trg.run = some r → r.firedAt ≠ some o.tick) →
    let taken : Part := { p with trg := { p.trg with offers := rest } }
    ((∀ j : Fin 8, ¬ HandedTo o p.plans[j] j) → exec .offer s = .next (s.withPart taken)) ∧
    (∀ (i : Fin 8) (d : PlanDef), p.plans[i].definition = some d → HandedTo o p.plans[i] i →
      (∀ j : Fin 8, j ≠ i → ¬ HandedTo o p.plans[j] j) →
      let pl := p.plans[i]
      exec .offer s = .next (s.withPart (
        if pl.lastAccepted.any (fun t => decide (o.tick < t + d.holdoff)) then
          { taken with plans := p.plans.set i.val { pl with counters := { pl.counters with
              ignoredHoldoff := min (pl.counters.ignoredHoldoff + 1) 65535 } } }
        else if (pl.openRecord ≠ none ∨ ∃ j ∈ p.jobs, j.plan = i) ∧ d.policy = .drop then
          postReport (.jobDropped i o.tick o.sources .busy)
            { taken with plans := p.plans.set i.val { pl with counters := { pl.counters with
                droppedBusy := min (pl.counters.droppedBusy + 1) 65535 } } }
        else if 8 ≤ p.jobs.length then
          postReport (.jobDropped i o.tick o.sources .queueFull)
            { taken with plans := p.plans.set i.val { pl with counters := { pl.counters with
                droppedFull := min (pl.counters.droppedFull + 1) 65535 } } }
        else
          reexamine { taken with
            jobs := p.jobs ++ [{ plan := i, sources := o.sources, tick := o.tick }]
            plans := p.plans.set i.val { pl with
              lastAccepted := some o.tick
              shots := match pl.shots with
                | .count n => .count (n - 1)
                | .unlimited => .unlimited
              state := if pl.shots = .count 0 ∨ pl.shots = .count 1 then .draining else .running
              counters := { pl.counters with accepted := min (pl.counters.accepted + 1) 65535 } } })))

/-- OFFER (R54, R55, R36, R37, R28), with no TRIGGER waiting for its tick: the plans judge the offer in ascending index, each on the part that the plans
below it have left, and each with the first check that applies: ignored inside its holdoff, dropped as BUSY, dropped for a full queue, or accepted, with
the plan's fields, the job and the report that its verdict gives. `q` is the part after the judgements, which the re-examination follows if a job was
appended. The jobs of the offer stand at the tail of the queue in ascending plan index, each of a plan the offer was handed to; the queue never
passes eight; a plan is dropped for a full queue only when eight jobs stand there, so no plan of a lower index is dropped for it where one of
a higher index is accepted; and a plan the offer is not handed to is unchanged. With no offer waiting nothing happens (assumption 5). -/
def Obligations.OfferClaimsPlacesInPlanOrder : Prop :=
  ∀ (s : State) (p : Part), arbitrated s.part = p →
    (p.trg.offers = [] → exec .offer s = .next (s.withPart p)) ∧
    (∀ (o : Offer) (rest : List Offer), p.trg.offers = o :: rest →
      (∀ r : TriggerRun, p.trg.run = some r → r.firedAt ≠ some o.tick) →
      let taken : Part := { p with trg := { p.trg with offers := rest } }
      let q := judgedBelow o taken 8
      let accepts : Fin 8 → Prop := fun i => offerVerdict o i (judgedBelow o taken i.val) = some .accepted
      (((∀ i : Fin 8, ¬ accepts i) → exec .offer s = .next (s.withPart q)) ∧
        (∀ i : Fin 8, accepts i → exec .offer s = .next (s.withPart (reexamine q)))) ∧
      (∀ i : Fin 8, (afterVerdict o i (judgedBelow o taken i.val)).plans[i] = q.plans[i] ∧
        (judgedBelow o taken i.val).plans[i] = p.plans[i]) ∧
      (p.jobs.length ≤ 8 → ∃ accepted : List (Fin 8),
        accepted.Pairwise (fun i j => i < j) ∧
        (∀ i : Fin 8, i ∈ accepted ↔ accepts i) ∧
        q.jobs = p.jobs ++ accepted.map (fun i => { plan := i, sources := o.sources, tick := o.tick }) ∧
        q.jobs.length ≤ 8 ∧
        (∀ i ∈ accepted, HandedTo o p.plans[i] i ∧ q.plans[i].lastAccepted = some o.tick) ∧
        (∀ i : Fin 8, i ∉ accepted → q.plans[i] = { p.plans[i] with counters := q.plans[i].counters } ∧
          q.plans[i].counters.accepted = p.plans[i].counters.accepted) ∧
        (∀ i : Fin 8, ¬ HandedTo o p.plans[i] i → q.plans[i] = p.plans[i]) ∧
        (∀ i j : Fin 8, i < j → j ∈ accepted → q.plans[i].counters.droppedFull = p.plans[i].counters.droppedFull) ∧
        (∀ i : Fin 8, q.plans[i].counters.droppedFull ≠ p.plans[i].counters.droppedFull → q.jobs.length = 8) ∧
        q = { p with
          trg := { p.trg with offers := rest }
          jobs := q.jobs
          plans := q.plans
          lnk := { p.lnk with reports := q.lnk.reports, lost := q.lnk.lost } }))

/-- OFFER of the tick at which a TRIGGER fired SOFT (R52, R54, R161, R36, R37): the plans judge the offer in ascending index, each on the part that the plans
below it have left, and what each verdict gives happens as with any offer; after the judgements, which leave `q`, and the re-examination that follows
an acceptance, the command is answered OK with the tick, the plans that accepted the offer and the plans that dropped it; its execution ends, and
the commands behind it execute. -/
def Obligations.OfferAnswersTheTrigger : Prop :=
  ∀ (s : State) (p : Part) (o : Offer) (rest : List Offer) (r : TriggerRun) (c : IntakeCommand) (behind : List IntakeCommand),
    arbitrated s.part = p → p.trg.offers = o :: rest → p.trg.run = some r → r.firedAt = some o.tick →
    p.lnk.intake = c :: behind →
    let taken : Part := { p with trg := { p.trg with offers := rest } }
    let q := judgedBelow o taken 8
    ∃ accepted dropped : PlanSet,
      (let u := if accepted = 0 then q else reexamine q
       exec .offer s = .next (s.withPart (drain { u with
         trg := { u.trg with run := none }
         lnk := { u.lnk with
           intake := behind
           responses := u.lnk.responses ++
             [reservedResponse c.tag (payloadCode c.payload) .ok (1 :: tickBytes o.tick ++ [accepted, dropped])] } }))) ∧
      (∀ i : Fin 8,
        let verdict := offerVerdict o i (judgedBelow o taken i.val)
        (accepted.getLsbD i.val = true ↔ verdict = some .accepted) ∧
        (dropped.getLsbD i.val = true ↔ verdict = some (.dropped .busy) ∨ verdict = some (.dropped .queueFull)) ∧
        (accepted.getLsbD i.val = true ↔ p.jobsPending i < q.jobsPending i) ∧
        (afterVerdict o i (judgedBelow o taken i.val)).plans[i] = q.plans[i] ∧
        (judgedBelow o taken i.val).plans[i] = p.plans[i] ∧
        (¬ HandedTo o p.plans[i] i → q.plans[i] = p.plans[i])) ∧
      q = { p with
        trg := { p.trg with offers := rest }, jobs := q.jobs, plans := q.plans
        lnk := { p.lnk with reports := q.lnk.reports, lost := q.lnk.lost } }

/-! ### SMP and HIS -/

/-- TICK_EVENT (R125, R126, R127, R128, R121): an input is converted at its channel's range as it stands once RNG has taken the codes of earlier
ticks, to the end code at or beyond an end of the full scale, to its own code step where it is one, and otherwise to a neighbouring step
(which one is a free value; the unit of the inputs is the model's: assumption 23). The codes of the enabled channels stand in history at their
tick, every other byte of history stays, the tick is the newest sampled one and the counter advances up to 2^48 - 1. RNG observes the codes (R138): that
of an enabled channel joins the span, or, where it would end the span, waits for SPAN_END (assumption 10), and a channel that is not enabled stays as
RNG left it. RNG's taking of the codes of earlier ticks is SPAN_END for each channel in ascending order. Nothing of the lanes, the plans, the jobs, the free list or the command side changes, and with no window in COPYING or LIVE nothing of Record Memory. (That a tick event
sent to a STOPPED Sampler, or past the last tick, changes nothing is the model's form of that, assumption 5.) -/
def Obligations.TickEventSamplesTheEnabledChannels : Prop :=
  (∀ (ch : Fin 8) (tick range : Nat) (input : Int), range ≤ 7 →
    let code := (convert ch tick range input).toInt
    (2 ^ (30 - range) ≤ input → code = 32767) ∧ (input ≤ -(2 ^ (30 - range)) → code = -32768) ∧
    (∀ n : Int, -32768 ≤ n → n ≤ 32767 →
      (input = n * 2 ^ (15 - range) → code = n) ∧
      (n * 2 ^ (15 - range) < input → input < (n + 1) * 2 ^ (15 - range) → code = n ∨ code = min (n + 1) 32767))) ∧
  (∀ (s : State) (p : Part) (inputs : Vector Int 8), arbitrated s.part = p → Memory.wf p.history →
    (p.smp.running = false ∨ p.smp.newest = some 281474976710655 → exec (.tickEvent inputs) s = .next (s.withPart p)) ∧
    (p.smp.running = true → p.smp.newest ≠ some 281474976710655 →
      let tick := p.smp.tickCounter
      let code := fun c : Fin 8 => convert c tick (settleSpans p).channels[c].range inputs[c]
      ∃ t : Part, exec (.tickEvent inputs) s = .next (s.withPart t) ∧
        t.smp = { p.smp with newest := some tick, tickCounter := if tick < 281474976710655 then tick + 1 else tick } ∧
        (∀ c : Fin 8, p.smp.enabled.getLsbD c.val = true →
          historyCode t c tick = code c ∧ t.fill[c] = min (p.fill[c] + 1) 16384) ∧
        (∀ c : Fin 8, p.smp.enabled.getLsbD c.val = false → t.fill[c] = p.fill[c]) ∧
        (∀ a : Nat, (∀ c : Fin 8, p.smp.enabled.getLsbD c.val = true →
            a ≠ historyAddr c tick ∧ a ≠ historyAddr c tick + 1) →
          t.history.read a = p.history.read a) ∧
        (∀ c : Fin 8,
          let x := (settleSpans p).channels[c]
          t.channels[c] =
            if p.smp.enabled.getLsbD c.val = false then x
            else if x.spanPos + 1 < 256 then { x with
              spanPos := x.spanPos + 1
              spanPeak := max x.spanPeak (code c).toInt.natAbs
              spanClip := x.spanClip || decide (code c = 0x8000) || decide (code c = 0x7FFF) }
            else { x with arriving := some (code c) }) ∧
        ((∀ (w : Fin 4) (x : Window), p.slots[w] = some x → x.phase = .ended) →
          t.blocks = p.blocks ∧ t.records = p.records ∧ t.slots = p.slots) ∧
        t = { p with
          smp := t.smp, fill := t.fill, history := t.history, channels := t.channels, lines := t.lines
          detectors := t.detectors, trg := t.trg, slots := t.slots, blocks := t.blocks, records := t.records
          lnk := { p.lnk with reports := (settleSpans p).lnk.reports, lost := (settleSpans p).lnk.lost } })) ∧
  (∀ (s : State) (p : Part), arbitrated s.part = p →
    settleSpans p = spanArrival 7 (spanArrival 6 (spanArrival 5 (spanArrival 4
      (spanArrival 3 (spanArrival 2 (spanArrival 1 (spanArrival 0 p))))))) ∧
    (∀ ch : Fin 8,
      let x := p.channels[ch]
      exec (.spanEnd ch) s = .next (s.withPart (spanArrival ch p)) ∧
      (x.arriving = none → spanArrival ch p = p) ∧
      (∀ code : SampleCode, x.arriving = some code → x.spanPos + 1 < 256 → spanArrival ch p = { p with
        channels := p.channels.set ch.val { x with
          arriving := none
          spanPos := x.spanPos + 1
          spanPeak := max x.spanPeak code.toInt.natAbs
          spanClip := x.spanClip || decide (code = 0x8000) || decide (code = 0x7FFF) } })))

/-- SAMPLING_SET (R124). -/
def Obligations.SamplingSetWritesRateAndChannels : Prop :=
  ∀ (s : State) (p : Part) (tag rate : Byte) (channels : BitVec 16), arbitrated s.part = p → Accepts tag p →
    exec (.samplingSet tag rate channels) s = .next (s.withPart (
      if 7 < rate.toNat then Part.answered tag 0x10 .badArg [] p
      else if channels = 0 ∨ 255 < channels.toNat then Part.answered tag 0x10 .badArg [] p
      else if p.smp.running = true then Part.answered tag 0x10 .busy [] p
      else Part.answered tag 0x10 .ok [] { p with
        smp := { p.smp with rateCode := rate.toNat, enabled := channels.extractLsb' 0 8 } }))

/-- SAMPLING_START (R130, R150, R45, R48, R57). Codes of the run before that are on their way to RNG are taken first, and offers
not yet taken go; both are the model's reading (assumptions 10, 11). -/
def Obligations.SamplingStartBeginsARun : Prop :=
  ∀ (s : State) (p : Part) (tag : Byte), arbitrated s.part = p → Accepts tag p →
    let q := settleSpans p
    exec (.samplingStart tag) s = .next (s.withPart (
      if p.smp.running = true then Part.answered tag 0x11 .badState [] p
      else Part.answered tag 0x11 .ok [] { q with
        smp := { p.smp with running := true, tickCounter := 0, newest := none }
        fill := Vector.replicate 8 0
        channels := q.channels.map (fun c =>
          { c with log := [], baseRange := c.range, baseTick := 0, spanPos := 0, spanPeak := 0, spanClip := false })
        detectors := q.detectors.map (fun d => { d with state := .unknown })
        lines := p.lines.map (fun x => { x with latch := false })
        trg := { p.trg with offerCount := 0, lastOffer := none, offers := [] } }))

/-- SAMPLING_STOP (R131, R39, R74, R77, R83, R161): refused with BAD_STATE in STOPPED; taken in RUNNING, it stops the Sampler, clears the latches, expires
every job, seals every window and hands its record to its lane, halts the running plans and cancels the ONCE passes, each with its reports in the
order of the steps, and it stays in execution until its OK is queued (assumption 7). -/
def Obligations.SamplingStopEndsTheRun : Prop :=
  ∀ (s : State) (p : Part) (tag : Byte), arbitrated s.part = p → Accepts tag p → PlansAccounted p →
    (p.smp.running = false →
      exec (.samplingStop tag) s = .next (s.withPart (Part.answered tag 0x12 .badState [] p))) ∧
    (p.smp.running = true →
      ∃ t : Part, exec (.samplingStop tag) s = .next (s.withPart (Part.begun tag [0x12] t)) ∧ StoppedFrom p t ∧
        t = { p with
          smp := t.smp, lines := t.lines, jobs := t.jobs, slots := t.slots, plans := t.plans, channels := t.channels
          freeList := t.freeList, records := t.records, lanes := t.lanes
          lnk := { p.lnk with reports := t.lnk.reports, lost := t.lnk.lost } })

/-- TICK_LIMIT_STOP (R132, R52, R39, R74): after the tick event of tick 2^48 - 1 the Sampler stops as at SAMPLING_STOP, which leaves `t`;
SAMPLER_STOPPED is posted after the stop's other reports; a TRIGGER in execution is answered BAD_STATE with no tick and empty masks, also
where its SOFT has fired at that tick (the model's choice: assumption 25), and the commands behind it execute. Before that tick, or in
STOPPED, nothing happens (assumption 5). -/
def Obligations.TickLimitStopEndsTheRun : Prop :=
  ∀ (s : State) (p : Part), arbitrated s.part = p →
    (p.smp.running = false ∨ p.smp.newest ≠ some 281474976710655 → exec .tickLimitStop s = .next (s.withPart p)) ∧
    (PlansAccounted p → p.smp.running = true → p.smp.newest = some 281474976710655 →
      ∃ t : Part, StoppedFrom p t ∧
        t = { p with
          smp := t.smp, lines := t.lines, jobs := t.jobs, slots := t.slots, plans := t.plans, channels := t.channels
          freeList := t.freeList, records := t.records, lanes := t.lanes
          lnk := { p.lnk with reports := t.lnk.reports, lost := t.lnk.lost } } ∧
        (let u := postReport (.samplerStopped 281474976710655) t
         (p.trg.run = none → exec .tickLimitStop s = .next (s.withPart u)) ∧
         (∀ (r : TriggerRun) (c : IntakeCommand) (behind : List IntakeCommand), p.trg.run = some r → p.lnk.intake = c :: behind →
           exec .tickLimitStop s = .next (s.withPart (drain { u with
             trg := { p.trg with run := none }
             lnk := { u.lnk with
               intake := behind
               responses := p.lnk.responses ++
                 [reservedResponse c.tag (payloadCode c.payload) .badState [0, 0, 0, 0, 0, 0, 0, 0, 0]] } })))))

/-! ### RNG -/

/-- SPAN_END (R139, R140, R143): in TRACK with a lock count of 0 the span's peak and clip mark widen, narrow or keep the range; a change is
logged from the following tick, sets the detector to UNKNOWN and posts RANGE_CHANGED. In MANUAL, or with the lock count above 0, nothing but
the span changes: a new one starts. That the code
which ends the span waits for this step is the model's form (assumption 10). -/
def Obligations.SpanEndMovesAnUnlockedTrackRange : Prop :=
  ∀ (s : State) (p : Part) (ch : Fin 8) (code : SampleCode), arbitrated s.part = p →
    let c := p.channels[ch]
    c.arriving = some code → c.spanPos = 255 →
    let fresh : Channel := { c with arriving := none, spanPos := 0, spanPeak := 0, spanClip := false }
    let peak := max c.spanPeak code.toInt.natAbs
    let clip := c.spanClip || decide (code = 0x8000) || decide (code = 0x7FFF)
    let range := if (clip = true ∨ 28672 < peak) ∧ 0 < c.range then c.range - 1
      else if peak < 12288 ∧ c.range < (if ch.val < 6 then 7 else 3) then c.range + 1 else c.range
    let tick := match p.smp.newest with
      | some n => n + 1
      | none => 0
    (c.mode = .manual ∨ 0 < c.lockCount →
      exec (.spanEnd ch) s = .next (s.withPart ({ p with channels := p.channels.set ch.val fresh }))) ∧
    (c.mode = .track → c.lockCount = 0 →
      exec (.spanEnd ch) s = .next (s.withPart (
        if range = c.range then { p with channels := p.channels.set ch.val fresh }
        else postReport (.rangeChanged ch c.range range false) { p with
          channels := p.channels.set ch.val
            (if tick ≤ 281474976710655 then appendEntry { tick := tick, range := range } { fresh with range := range }
             else { fresh with range := range })
          detectors := p.detectors.set ch.val { p.detectors[ch] with state := .unknown } })))

/-- SPAN_END in a ONCE pass with the lock count at 0 (R145): the span is counted; keep ends the pass as SETTLED, a change is applied and, at the
eighth counted span, ends it as LIMIT. The waiting code is the
model's form (assumption 10). -/
def Obligations.SpanEndCountsTowardAOncePass : Prop :=
  ∀ (s : State) (p : Part) (ch : Fin 8) (code : SampleCode) (n : Nat), arbitrated s.part = p →
    let c := p.channels[ch]
    c.arriving = some code → c.spanPos = 255 → c.mode = .once → c.lockCount = 0 → c.counted = some n →
    let fresh : Channel := { c with arriving := none, spanPos := 0, spanPeak := 0, spanClip := false }
    let peak := max c.spanPeak code.toInt.natAbs
    let clip := c.spanClip || decide (code = 0x8000) || decide (code = 0x7FFF)
    let range := if (clip = true ∨ 28672 < peak) ∧ 0 < c.range then c.range - 1
      else if peak < 12288 ∧ c.range < (if ch.val < 6 then 7 else 3) then c.range + 1 else c.range
    let tick := match p.smp.newest with
      | some m => m + 1
      | none => 0
    let logged : Channel := if tick ≤ 281474976710655 then appendEntry { tick := tick, range := range } { fresh with range := range }
      else { fresh with range := range }
    exec (.spanEnd ch) s = .next (s.withPart (
      if range = c.range then
        postReport (.rangeSettled ch c.range .settled) { p with
          channels := p.channels.set ch.val { fresh with mode := .manual, counted := none } }
      else if n + 1 < 8 then
        postReport (.rangeChanged ch c.range range true) { p with
          channels := p.channels.set ch.val { logged with counted := some (n + 1) }
          detectors := p.detectors.set ch.val { p.detectors[ch] with state := .unknown } }
      else
        postReport (.rangeSettled ch range .limit) (postReport (.rangeChanged ch c.range range true) { p with
          channels := p.channels.set ch.val { logged with mode := .manual, counted := none }
          detectors := p.detectors.set ch.val { p.detectors[ch] with state := .unknown } })))

/-- RANGE_SET (R147, R139): BAD_ARG, BAD_STATE and LOCKED in that order of checks; a taken command that names another range sets it, logs it from the
next tick to be sampled while a run can sample one, and sets the detector to UNKNOWN. A code of the old range that is on its way to RNG goes into
the span of the old range, which it ends at 256 codes; its waiting is the model's form (assumption 10). The log (R141): an entry with the newest
entry's tick replaces its range; a log of eight gives up its oldest entry, which becomes the base range and base tick; any other entry joins the
tail. -/
def Obligations.RangeSetMovesAndLogsAManualRange : Prop :=
  (∀ (s : State) (p : Part) (tag channel range : Byte), arbitrated s.part = p → Accepts tag p →
    exec (.rangeSet tag channel range) s = .next (s.withPart (
      if h : channel.toNat < 8 then
        let c := p.channels[channel.toNat]
        let settled : Channel := match c.arriving with
          | none => c
          | some code =>
            if 256 ≤ c.spanPos + 1 then { c with arriving := none, spanPos := 0, spanPeak := 0, spanClip := false }
            else { c with
              arriving := none
              spanPos := c.spanPos + 1
              spanPeak := max c.spanPeak code.toInt.natAbs
              spanClip := c.spanClip || decide (code = 0x8000) || decide (code = 0x7FFF) }
        if (if channel.toNat < 6 then 7 else 3) < range.toNat then Part.answered tag 0x18 .badArg [] p
        else if c.mode ≠ .manual then Part.answered tag 0x18 .badState [] p
        else if 0 < c.lockCount then Part.answered tag 0x18 .locked [] p
        else if c.range = range.toNat then Part.answered tag 0x18 .ok [] p
        else Part.answered tag 0x18 .ok [] { p with
          channels := p.channels.set channel.toNat
            (if p.smp.running = true ∧ p.smp.newest ≠ some 281474976710655 then
               appendEntry { tick := p.smp.tickCounter, range := range.toNat } { settled with range := range.toNat }
             else { settled with range := range.toNat })
          detectors := p.detectors.set channel.toNat { p.detectors[channel.toNat] with state := .unknown } }
      else Part.answered tag 0x18 .badArg [] p))) ∧
  (∀ (c : Channel) (e : LogEntry), c.log = [] → appendEntry e c = { c with log := [e] }) ∧
  (∀ (c : Channel) (e last : LogEntry) (older : List LogEntry), c.log = older ++ [last] →
    (last.tick = e.tick → appendEntry e c = { c with log := older ++ [e] }) ∧
    (last.tick ≠ e.tick → c.log.length < 8 → appendEntry e c = { c with log := c.log ++ [e] }) ∧
    (∀ (oldest : LogEntry) (rest : List LogEntry), last.tick ≠ e.tick → c.log = oldest :: rest → rest.length = 7 →
      appendEntry e c = { c with log := rest ++ [e], baseRange := oldest.range, baseTick := oldest.tick }))

/-- RANGE_MODE (R148, R146): a ONCE pass in progress is cancelled with its report, the mode becomes the one named, a new span starts, and ONCE
begins a pass with a count of 0. TRACK and ONCE are not for the auxiliary channels. -/
def Obligations.RangeModeStartsANewSpan : Prop :=
  ∀ (s : State) (p : Part) (tag channel mode : Byte), arbitrated s.part = p → Accepts tag p →
    exec (.rangeMode tag channel mode) s = .next (s.withPart (
      if h : channel.toNat < 8 then
        let c := p.channels[channel.toNat]
        let m : RangeMode := if mode = 0 then .manual else if mode = 1 then .track else .once
        let moved : Part := { p with channels := p.channels.set channel.toNat { c with
          mode := m, counted := if m = .once then some 0 else none, spanPos := 0, spanPeak := 0, spanClip := false } }
        if 2 < mode.toNat then Part.answered tag 0x19 .badArg [] p
        else if 6 ≤ channel.toNat ∧ mode ≠ 0 then Part.answered tag 0x19 .unsupported [] p
        else if c.mode = .once then
          Part.answered tag 0x19 .ok [] (postReport (.rangeSettled ⟨channel.toNat, h⟩ c.range .cancelled) moved)
        else Part.answered tag 0x19 .ok [] moved
      else Part.answered tag 0x19 .badArg [] p))

/-! ### CAP: plans -/

/-- PLAN_DEFINE (R24, R25, R6): the five checks in their order, and a definition written whole into a plan that becomes READY. -/
def Obligations.PlanDefineWritesTheWholeDefinition : Prop :=
  ∀ (s : State) (p : Part) (tag plan : Byte) (d : PlanArgs), arbitrated s.part = p → Accepts tag p →
    exec (.planDefine tag plan d) s = .next (s.withPart (
      if h : plan.toNat < 8 then
        let pl := p.plans[plan.toNat]
        if pl.state = .running ∨ pl.state = .draining then Part.answered tag 0x30 .busy [] p
        else if d.channels = 0 ∨ 255 < d.channels.toNat ∨ d.decimation.toNat ∉ [1, 2, 4, 8, 16] ∨ 16383 < d.pre.toNat ∨
            d.post = 0 ∨ d.sources = 0 ∨ 8191 < d.sources.toNat ∨ 2 < d.runMode.toNat ∨
            (d.runMode = 1 ∧ d.count.toNat < 2) ∨ 1 < d.policy.toNat ∨ 1 < d.lane.toNat ∨ 1 < d.retain.toNat then
          Part.answered tag 0x30 .badArg [] p
        else if d.pre.toNat % d.decimation.toNat ≠ 0 ∨ d.post.toNat % d.decimation.toNat ≠ 0 then
          Part.answered tag 0x30 .badArg [] p
        else if 262144 < (channelList (d.channels.extractLsb' 0 8)).length *
            ((d.pre.toNat + d.post.toNat) / d.decimation.toNat) then
          Part.answered tag 0x30 .badArg [] p
        else Part.answered tag 0x30 .ok [] { p with
          plans := p.plans.set plan.toNat { pl with
            state := .ready
            definition := some
              { channels := d.channels.extractLsb' 0 8
                decimation := d.decimation.toNat
                pre := d.pre.toNat
                post := d.post.toNat
                sources := d.sources.extractLsb' 0 13
                runMode := if d.runMode = 0 then .single else if d.runMode = 1 then .count d.count.toNat else .continuous
                policy := if d.policy = 0 then .queue else .drop
                holdoff := d.holdoff.toNat
                lane := if d.lane = 0 then 0 else 1
                retain := decide (d.retain = 1) }
            haltReason := none
            shots := .count 0
            lastAccepted := none
            counters := { accepted := 0, droppedBusy := 0, droppedFull := 0, ignoredHoldoff := 0, expired := 0 } } }
      else Part.answered tag 0x30 .badArg [] p))

/-- PLAN_CLEAR (R33): BAD_ARG above P7, BUSY in RUNNING and DRAINING, no change in EMPTY, and otherwise the plan's device reset values. -/
def Obligations.PlanClearEmptiesThePlan : Prop :=
  ∀ (s : State) (p : Part) (tag plan : Byte), arbitrated s.part = p → Accepts tag p →
    exec (.planClear tag plan) s = .next (s.withPart (
      if h : plan.toNat < 8 then
        let pl := p.plans[plan.toNat]
        if pl.state = .running ∨ pl.state = .draining then Part.answered tag 0x31 .busy [] p
        else if pl.state = .empty then Part.answered tag 0x31 .ok [] p
        else Part.answered tag 0x31 .ok [] { p with
          plans := p.plans.set plan.toNat
            { state := .empty
              definition := none
              haltReason := none
              shots := .count 0
              lastAccepted := none
              openRecord := none
              counters := { accepted := 0, droppedBusy := 0, droppedFull := 0, ignoredHoldoff := 0, expired := 0 } } }
      else Part.answered tag 0x31 .badArg [] p))

/-- PLAN_START (R27): the five checks in their order; a taken command sets the plan RUNNING with its shots, and no offer formed before it is for
the plan. The mark on the offers is
the model's form of that (assumption 11). -/
def Obligations.PlanStartRunsThePlan : Prop :=
  ∀ (s : State) (p : Part) (tag plan : Byte), arbitrated s.part = p → Accepts tag p →
    exec (.planStart tag plan) s = .next (s.withPart (
      if h : plan.toNat < 8 then
        let pl := p.plans[plan.toNat]
        if pl.state = .running ∨ pl.state = .draining then Part.answered tag 0x32 .busy [] p
        else
          match pl.definition with
          | none => Part.answered tag 0x32 .badState [] p
          | some d =>
            if pl.state = .empty ∨ p.smp.running = false ∨
                (∃ c : Fin 8, d.channels.getLsbD c.val = true ∧ p.smp.enabled.getLsbD c.val = false) then
              Part.answered tag 0x32 .badState [] p
            else Part.answered tag 0x32 .ok [] { p with
              plans := p.plans.set plan.toNat { pl with
                state := .running
                haltReason := none
                shots := match d.runMode with
                  | .single => .count 1
                  | .count n => .count n
                  | .continuous => .unlimited
                lastAccepted := none
                counters := { accepted := 0, droppedBusy := 0, droppedFull := 0, ignoredHoldoff := 0, expired := 0 } }
              trg := { p.trg with
                offers := p.trg.offers.map (fun o => { o with unseenBy := o.unseenBy ||| ((1 : PlanSet) <<< plan.toNat) }) } }
      else Part.answered tag 0x32 .badArg [] p))

/-- PLAN_STOP GRACEFUL (R29, R30): a RUNNING plan drains, and goes on to DONE with its report if it has no OPEN record and no pending job; a
DRAINING plan does not change; any other refuses. -/
def Obligations.PlanStopGracefulDrainsThePlan : Prop :=
  ∀ (s : State) (p : Part) (tag plan : Byte), arbitrated s.part = p → Accepts tag p →
    exec (.planStopGraceful tag plan) s = .next (s.withPart (
      if h : plan.toNat < 8 then
        let i : Fin 8 := ⟨plan.toNat, h⟩
        let pl := p.plans[i]
        if pl.state = .draining then Part.answered tag 0x33 .ok [] p
        else if pl.state ≠ .running then Part.answered tag 0x33 .badState [] p
        else if pl.openRecord ≠ none ∨ ∃ j ∈ p.jobs, j.plan = i then
          Part.answered tag 0x33 .ok [] { p with plans := p.plans.set i.val { pl with state := .draining } }
        else
          Part.answered tag 0x33 .ok [] (postReport (.planState i .done none 0)
            { p with plans := p.plans.set i.val { pl with state := .done } })
      else Part.answered tag 0x33 .badArg [] p))

/-- PLAN_STOP ABORT (R31, R29, R61, R73, R74, R161). Outside P0 to P7 it is BAD_ARG, and a plan neither RUNNING nor DRAINING refuses with BAD_STATE. Taken,
it removes the plan's jobs without a report of their own and keeps the other jobs in their order. A plan without a window moves to HALTED with
HOST_ABORT, PLAN_STATE carrying the number of jobs removed, and the queue is re-examined if there were any. A plan with one window has it sealed,
the queue re-examined at the end of the seal, and then the same move and re-examination. The command stays in execution until its OK is queued
(assumption 7). -/
def Obligations.PlanStopAbortHaltsThePlan : Prop :=
  ∀ (s : State) (p : Part) (tag plan : Byte), arbitrated s.part = p → Accepts tag p →
    (8 ≤ plan.toNat →
      exec (.planStopAbort tag plan) s = .next (s.withPart (Part.answered tag 0x33 .badArg [] p))) ∧
    (∀ i : Fin 8, i.val = plan.toNat →
      (p.plans[i].state ≠ .running ∧ p.plans[i].state ≠ .draining →
        exec (.planStopAbort tag plan) s = .next (s.withPart (Part.answered tag 0x33 .badState [] p))) ∧
      (p.plans[i].state = .running ∨ p.plans[i].state = .draining →
        let removed := p.jobsPending i
        let rest : Part := { p with jobs := p.jobs.filter (fun j => decide (j.plan ≠ i)) }
        let halt : Part → Part := fun u =>
          postReport (.planState i .halted (some .hostAbort) removed)
            { u with plans := u.plans.set i.val { u.plans[i] with state := .halted, haltReason := some .hostAbort } }
        ((∀ (w : Fin 4) (x : Window), p.slots[w] = some x → x.plan ≠ i) →
          exec (.planStopAbort tag plan) s = .next (s.withPart (Part.begun tag [0x33, plan, 1]
            (if removed = 0 then halt rest else reexamine (halt rest))))) ∧
        (∀ (w : Fin 4) (x : Window) (r : Record), p.slots[w] = some x → x.plan = i → findRecord p x.recordId = some r →
          (∀ (v : Fin 4) (y : Window), v ≠ w → p.slots[v] = some y → y.plan ≠ i) →
          ∃ q : Part, SealedFrom w x r rest q ∧
            exec (.planStopAbort tag plan) s =
              .next (s.withPart (Part.begun tag [0x33, plan, 1] (reexamine (halt (reexamine q))))))))

/-! ### CAP: windows -/

/-- TICK_EVENT at the windows (R71, R72, R3, R66, R70). Each LIVE window whose last tick has not gone stores, at an aligned tick, the frame of its channels at
the end of its record's words: the record's counts rise, a clipped code sets the clipped mark; at any other tick it stores nothing; and at its
last tick, aligned or not, it moves to ENDED. A window in another phase keeps its slot, and no other record or byte of the blocks changes. The LIVE
windows' records are distinct and their chains share no block, and every COPYING window's next aligned tick stays in history. Where the tick would
overwrite that tick in history, the lowest such slot's copy stores its frame first, as its CATCH_UP_COPY_FRAME would (assumption 8). -/
def Obligations.LiveWindowStoresTheTicksFrame : Prop :=
  ∀ (s : State) (p : Part) (inputs : Vector Int 8), arbitrated s.part = p →
    p.smp.running = true → p.smp.newest ≠ some 281474976710655 →
    let tick := p.smp.tickCounter
    let codes := sampledCodes inputs (settleSpans p)
    let keeps : Fin 4 → Prop := fun v => ∀ y : Window, p.slots[v] = some y → y.phase = .copying →
      0 < y.decimation ∧ ∀ m : Nat, y.copyPos ≤ y.first + m * y.decimation → tick < y.first + m * y.decimation + 16384
    let storing : Fin 4 → Window → Record → Prop := fun w x r => p.slots[w] = some x ∧ x.phase = .live ∧
      findRecord p x.recordId = some r ∧ x.first ≤ tick ∧ tick ≤ x.last ∧ (tick - x.first) % x.decimation = 0
    ((∀ v : Fin 4, keeps v) → Memory.wf p.blocks →
      (∀ (w : Fin 4) (x : Window) (r : Record), storing w x r → r.chain.Nodup) →
      (∀ (v w : Fin 4) (x y : Window) (r r' : Record), v ≠ w → storing v x r → storing w y r' →
        x.recordId ≠ y.recordId ∧ ∀ b ∈ r.chain, b ∉ r'.chain) →
      ∃ t : Part, exec (.tickEvent inputs) s = .next (s.withPart t) ∧
        (∀ w : Fin 4, (∀ x : Window, p.slots[w] = some x → x.phase ≠ .live ∨ x.last < tick) → t.slots[w] = p.slots[w]) ∧
        (∀ (w : Fin 4) (x : Window), p.slots[w] = some x → x.phase = .live → tick ≤ x.last →
          let phase : Phase := if tick = x.last then .ended else .live
          (tick < x.first ∨ (tick - x.first) % x.decimation ≠ 0 → t.slots[w] = some { x with phase := phase }) ∧
          (∀ r : Record, storing w x r →
            let set := channelList x.channels
            t.slots[w] = some { x with
              phase := phase
              clipped := x.clipped || set.any (fun c => decide (codes[c] = 0x8000) || decide (codes[c] = 0x7FFF)) } ∧
            findRecord t x.recordId = some { r with
              frames := r.frames + 1
              words := r.words + set.length
              postStored := if x.tick ≤ tick then r.postStored + x.decimation else r.postStored } ∧
            (∀ (k : Nat) (c : Fin 8) (a : Nat), set[k]? = some c → chainAddr r.chain (r.words + k) = some a →
              t.blocks.readWord a = codes[c]))) ∧
        (∀ id : Nat, (∀ (w : Fin 4) (x : Window) (r : Record), storing w x r → x.recordId ≠ id) →
          findRecord t id = findRecord p id) ∧
        (∀ a : Nat, (∀ (w : Fin 4) (x : Window) (r : Record) (k b : Nat), storing w x r → k < (channelList x.channels).length →
            chainAddr r.chain (r.words + k) = some b → a ≠ b ∧ a ≠ b + 1) →
          t.blocks.read a = p.blocks.read a) ∧
        ((∀ (w : Fin 4) (x : Window) (r : Record), ¬ storing w x r) → t.records = p.records ∧ t.blocks = p.blocks)) ∧
    (∀ (w : Fin 4) (x : Window) (k : Nat) (u : State), p.slots[w] = some x → x.phase = .copying → 0 < x.decimation →
      x.copyPos ≤ x.first + k * x.decimation → x.first + k * x.decimation < x.copyPos + x.decimation →
      x.first + k * x.decimation + 16384 = tick → (∀ v : Fin 4, v < w → keeps v) →
      exec (.catchUpCopyFrame w) s = .next u → exec (.tickEvent inputs) s = exec (.tickEvent inputs) u)

/-- CATCH_UP_COPY_FRAME and COPY_END (R70). The copy stores the frame of the next aligned tick, read from history, and advances past it; nothing
but the slot, the record and the stored words changes. When no aligned tick is left that has been sampled and belongs to the window, the copy
ends: in ENDED if the window's last tick has been sampled, else in LIVE. What counts as the copy
having passed the newest tick is the model's reading (assumption 9). -/
def Obligations.CatchUpCopyReadsHistoryInOrder : Prop :=
  ∀ (s : State) (p : Part) (w : Fin 4) (x : Window) (r : Record) (newest : Nat), arbitrated s.part = p →
    p.slots[w] = some x → x.phase = .copying → p.smp.newest = some newest → findRecord p x.recordId = some r →
    0 < x.decimation → x.first ≤ x.copyPos →
    (∀ k tick : Nat, tick = x.first + k * x.decimation → x.copyPos ≤ tick → tick < x.copyPos + x.decimation →
      tick ≤ newest → tick ≤ x.last →
      let set := channelList x.channels
      let codes := set.map (fun c => historyCode p c tick)
      ∃ t : Part, exec (.catchUpCopyFrame w) s = .next (s.withPart t) ∧
        findRecord t x.recordId = some { r with
          frames := r.frames + 1
          words := r.words + set.length
          postStored := if x.tick ≤ tick then r.postStored + x.decimation else r.postStored } ∧
        (∀ id : Nat, id ≠ x.recordId → findRecord t id = findRecord p id) ∧
        t.slots = p.slots.set w.val (some { x with
          copyPos := tick + 1
          clipped := x.clipped || codes.any (fun c => decide (c = 0x8000) || decide (c = 0x7FFF)) }) ∧
        (Memory.wf p.blocks → r.chain.Nodup →
          (∀ (k a : Nat) (c : SampleCode), codes[k]? = some c → chainAddr r.chain (r.words + k) = some a →
            t.blocks.readWord a = c) ∧
          (∀ a : Nat, (∀ k b : Nat, k < set.length → chainAddr r.chain (r.words + k) = some b → a ≠ b ∧ a ≠ b + 1) →
            t.blocks.read a = p.blocks.read a)) ∧
        t = { p with slots := t.slots, records := t.records, blocks := t.blocks }) ∧
    ((∀ k : Nat, x.copyPos ≤ x.first + k * x.decimation →
        newest < x.first + k * x.decimation ∨ x.last < x.first + k * x.decimation) →
      exec (.copyEnd w) s = .next (s.withPart { p with
        slots := p.slots.set w.val (some { x with phase := if x.last ≤ newest then .ended else .live }) }))

/-- WINDOW_SEAL of an ENDED window (R73, R75, R4, R68, R30, R61): the record's flags are completed and its chain trimmed, the blocks beyond join the
tail of the free list, the locks are lowered, the slot is free, the plan has no OPEN record, RECORD_SEALED is posted and the record handed to its
lane, which leaves `q`; then a DRAINING plan without a pending job moves to DONE with its PLAN_STATE, and the queue is re-examined. A slot
without an ENDED window has nothing to complete, and nothing happens (assumption 5). -/
def Obligations.WindowSealCompletesTheRecord : Prop :=
  ∀ (s : State) (p : Part) (w : Fin 4), arbitrated s.part = p →
    ((∀ x : Window, p.slots[w] = some x → x.phase ≠ .ended) → exec (.windowSeal w) s = .next (s.withPart p)) ∧
    (∀ (x : Window) (r : Record), p.slots[w] = some x → x.phase = .ended → findRecord p x.recordId = some r →
      ∃ q : Part, SealedFrom w x r p q ∧
        exec (.windowSeal w) s = .next (s.withPart (reexamine (
          if p.plans[x.plan].state = .draining ∧ ∀ j ∈ p.jobs, j.plan ≠ x.plan then
            postReport (.planState x.plan .done none 0)
              { q with plans := q.plans.set x.plan.val { q.plans[x.plan] with state := .done } }
          else q))))

/-- JOB_EXPIRY (R63, R30, R35, R61): the jobs whose trigger tick lies before the oldest retained tick leave, each counted at its plan and reported, in
queue order; a DRAINING plan left with no pending job and no OPEN record moves to DONE, its PLAN_STATE after the JOB_EXPIRED of its last job; then
the queue is re-examined. With no such job nothing happens (assumption 5). -/
def Obligations.JobExpiryRemovesJobsThatLeftHistory : Prop :=
  ∀ (s : State) (p : Part), arbitrated s.part = p →
    (p.smp.newest = none → exec .jobExpiry s = .next (s.withPart p)) ∧
    (∀ newest : Nat, p.smp.newest = some newest →
      let oldest := newest - 16383
      let gone := p.jobs.filter (fun j => decide (j.tick < oldest))
      (gone = [] → exec .jobExpiry s = .next (s.withPart p)) ∧
      (gone ≠ [] → ∃ q : Part, exec .jobExpiry s = .next (s.withPart (reexamine q)) ∧
        q.jobs = p.jobs.filter (fun j => decide (oldest ≤ j.tick)) ∧
        (∀ i : Fin 8,
          let k := (gone.filter (fun j => j.plan == i)).length
          let pl := p.plans[i]
          q.plans[i] = if k = 0 then pl else { pl with
            state := if pl.state = .draining ∧ pl.openRecord = none ∧ ∀ j ∈ p.jobs, j.plan = i → j.tick < oldest then .done
              else pl.state
            counters := { pl.counters with expired := min (pl.counters.expired + k) 65535 } }) ∧
        q.lnk = (postReports (expiryReports p oldest gone) p).lnk ∧
        q = { p with jobs := q.jobs, plans := q.plans, lnk := q.lnk }))

/-- A re-examination (R61, R62, R65, R66, R67, R2, R9, R11, R68). Where a slot is free, a job is ready, and the memory and the record slot are there
(OpensNext), it opens the oldest ready job and goes on from the part so left: the job leaves the queue; the record takes the ID that the counter
gives next, the blocks at the head of the free list, and the segments that channelSegments derives, RANGE_UNKNOWN where a channel's first tick
has no known range; the window stands in the lowest free slot in COPYING; the plan's OPEN record is set; each lock count of the window's
channels rises by 1. Otherwise it changes nothing. -/
def Obligations.ReexaminationOpensTheOldestReadyJob : Prop :=
  ∀ (p : Part),
    (∀ (w : Fin 4) (older : List Job) (j : Job) (younger : List Job) (d : PlanDef) (pre newest id : Nat),
      OpensNext p w older j younger d pre newest → 0 < d.decimation → RecordIdsSound p → TakesId p id →
      let first := j.tick - pre
      let frames := (pre + d.post) / d.decimation
      let blocks := ((channelList d.channels).length * frames + 255) / 256
      reexamine p = reexamine { p with
        jobs := older ++ younger
        freeList := p.freeList.drop blocks
        nextId := id % 65535 + 1
        records := p.records ++ [
          { id := id, plan := j.plan, lane := d.lane, retain := d.retain, sources := j.sources, tick := j.tick
            preRequested := d.pre, preStored := pre, postRequested := d.post, decimation := d.decimation
            channels := d.channels
            segments := (channelList d.channels).map (fun c => channelSegments p.channels[c] first d.decimation frames)
            state := .opened, postStored := 0, frames := 0, words := 0
            flags := { shortPre := decide (pre < d.pre), truncated := false, clipped := false
                       rangeUnknown := (channelList d.channels).any (fun c =>
                         p.channels[c].log.all (fun e => decide (first < e.tick)) && decide (first < p.channels[c].baseTick))
                       replayed := false }
            chain := p.freeList.take blocks, deliveries := 0 }]
        slots := p.slots.set w.val (some
          { recordId := id, plan := j.plan, tick := j.tick, first := first, last := j.tick + d.post - 1
            decimation := d.decimation, channels := d.channels, copyPos := first, phase := .copying, clipped := false })
        plans := p.plans.set j.plan.val { p.plans[j.plan] with openRecord := some id }
        channels := Vector.ofFn (fun c : Fin 8 => { p.channels[c] with
          lockCount := p.channels[c].lockCount + (if d.channels.getLsbD c.val then 1 else 0) }) }) ∧
    ((¬ ∃ (w : Fin 4) (older : List Job) (j : Job) (younger : List Job) (d : PlanDef) (pre newest : Nat),
      OpensNext p w older j younger d pre newest) → reexamine p = p)

/-- The range segments of a channel at an open (R69, R142): the first begins at frame 0 with the range in effect at the window's first tick, absent where
that is unknown; each later log entry gives the segment that begins at its first frame, if the window has that frame and no still later entry
begins there; the segments rise strictly. The range in effect at a tick is that of the last log entry up to it, else the base range from the
base tick on, else unknown. -/
def Obligations.SegmentsFollowTheRangeLog : Prop :=
  (∀ (c : Channel) (first d frames : Nat), 0 < d → c.log.Pairwise (fun a b => a.tick < b.tick) →
    let segments := channelSegments c first d frames
    let frame : LogEntry → Nat := fun e => (e.tick - first + (d - 1)) / d
    segments.head? = some { frame := 0, range := rangeAt c first } ∧
    segments.Pairwise (fun a b => a.frame < b.frame) ∧
    (∀ g : Segment, g ∈ segments.tail ↔ ∃ (older : List LogEntry) (e : LogEntry) (younger : List LogEntry),
      c.log = older ++ e :: younger ∧ first < e.tick ∧ frame e < frames ∧ (∀ y ∈ younger, frame y ≠ frame e) ∧
        g = { frame := frame e, range := some e.range })) ∧
  (∀ (c : Channel) (t : Nat),
    (∀ (older : List LogEntry) (e : LogEntry) (younger : List LogEntry), c.log = older ++ e :: younger → e.tick ≤ t →
      (∀ y ∈ younger, t < y.tick) → rangeAt c t = some e.range) ∧
    ((∀ e ∈ c.log, t < e.tick) → rangeAt c t = if c.baseTick ≤ t then some c.baseRange else none))

/-! ### REC: record commands -/

/-- RECORD_RELEASE (R17, R13, R161): a DELIVERED record is freed and the queue re-examined, and the command stays in execution until its OK is queued
(assumption 7); OPEN, SEALED and SENDING refuse with BAD_STATE; an ID of no live record is NO_SUCH. -/
def Obligations.RecordReleaseFreesADeliveredRecord : Prop :=
  ∀ (s : State) (p : Part) (tag : Byte) (id : BitVec 16), arbitrated s.part = p → Accepts tag p →
    exec (.recordRelease tag id) s = .next (s.withPart (
      match p.records.find? (fun r => r.id == id.toNat) with
      | none => Part.answered tag 0x42 .noSuch [] p
      | some r =>
        if r.state = .delivered then Part.begun tag (0x42 :: wordBytes id) (reexamine { p with
          freeList := p.freeList ++ r.chain
          records := p.records.eraseP (fun x => x.id == id.toNat) })
        else Part.answered tag 0x42 .badState [] p))

/-- RECORD_DISCARD (R15, R13, R61, R94, R95, R96): NO_SUCH and BAD_STATE leave everything. A DELIVERED record is freed, a SEALED one leaves its lane's
queue and is freed, and a SENDING one is abandoned by its lane and freed; the queue is re-examined after the free, and the command stays in
execution until its OK is queued (assumption 7). An abandon of the awaiting packet's record makes the awaiting packet absent, empties its buffer
(at the frame's completion if a copy is in flight) and the spare buffer if it is the record's, stops the timers, clears the retry count, flips s and
sets RESYNC pending, and its report carries the awaiting packet's index. Any other empties the one buffer that has the record's packet, sets RESYNC
pending and keeps s; its report carries that packet's index. The lane then checks its staging. -/
def Obligations.RecordDiscardFreesTheRecord : Prop :=
  ∀ (s : State) (p : Part) (tag : Byte) (id : BitVec 16), partFound (fun _ => true) s.part = p → Accepts tag p →
    let left : Part → Host.Outcome State Fault Refusal := fun t => .next (s.withPart (startAfter (fun _ => true) s.part t))
    let begun : Part → Host.Outcome State Fault Refusal := fun t => left (Part.begun tag (0x41 :: wordBytes id) t)
    (findRecord p id.toNat = none →
      exec (.recordDiscard tag id) s = left (Part.answered tag 0x41 .noSuch [] p)) ∧
    (∀ r : Record, findRecord p id.toNat = some r →
      let ln := p.lanes[r.lane]
      let freed : Part → Part := fun q =>
        { q with freeList := q.freeList ++ r.chain, records := q.records.eraseP (fun x => x.id == id.toNat) }
      let names : Option Current → Option Current := fun c => if c.any (fun x => x.recordId == id.toNat) then none else c
      let lies : Fin 2 → Bool := fun b => (ln.buffers[b].packet).any (fun k => k.recordId == id.toNat)
      let abandoned : Lane → Nat → Part := fun ln' reached =>
        reexamine (freed (beginStaging r.lane (postReport (.recordAbandoned r.lane id.toNat reached)
          { p with lanes := p.lanes.set r.lane.val ln' })))
      (r.state = .opened →
        exec (.recordDiscard tag id) s = left (Part.answered tag 0x41 .badState [] p)) ∧
      (r.state = .delivered → exec (.recordDiscard tag id) s = begun (reexamine (freed p))) ∧
      (r.state = .sealed → exec (.recordDiscard tag id) s = begun (reexamine (freed { p with
        lanes := p.lanes.set r.lane.val { ln with queue := ln.queue.erase id.toNat } }))) ∧
      (∀ a : Awaiting, r.state = .sending → ln.awaiting = some a → a.recordId = id.toNat → a.buffer = ln.seq →
        let own := if ln.state = .sending then ln.buffers else ln.buffers.set a.buffer.val .empty
        let kept := if lies (1 - ln.seq) then own.set (1 - ln.seq).val .empty else own
        exec (.recordDiscard tag id) s = begun (abandoned { ln with
          awaiting := none
          buffers := kept
          releasing := if ln.state = .sending then some a.buffer else ln.releasing
          ackTimer := none
          backoffTimer := none
          retries := 0
          seq := 1 - ln.seq
          resync := true
          current := names ln.current
          state := if ln.state = .idle ∨ ln.state = .sending ∨ ln.state = .halted then ln.state
            else if (kept[1 - ln.seq]).holds then .ready else .idle } a.index)) ∧
      (∀ (b : Fin 2) (k : Packet), r.state = .sending → (∀ a : Awaiting, ln.awaiting = some a → a.recordId ≠ id.toNat) →
        ln.buffers[b].packet = some k → k.recordId = id.toNat → ln.releasing ≠ some b →
        (∀ c : Fin 2, c < b → ln.releasing = some c ∨ lies c = false) →
        exec (.recordDiscard tag id) s = begun (abandoned { ln with
          buffers := ln.buffers.set b.val .empty
          resync := true
          current := names ln.current
          state := if ln.state = .ready ∧ b = ln.seq then .idle else ln.state } k.index)))

/-- RECORD_REPLAY (R18, R83, R84, R87, R88, R181): a DELIVERED record is marked REPLAYED and joins the tail of its own lane's queue, and the lane checks its
staging. Where the lane has no current record, nothing queued, nothing awaiting and its send buffer EMPTY, the header begins staging in the event, and
the record is SENDING. So it does in an EMPTY spare buffer behind the awaiting packet, with no packet left to stage before it: there R88 allows it, and
the model reads R181's "otherwise" as the cases in which R88 does not (assumption 24). Where R88 lets no staging begin, the record stands SEALED at
the tail. The command stays in execution until its OK is queued (assumption 7). OPEN, SEALED and SENDING refuse; an ID of no live record is
NO_SUCH. -/
def Obligations.RecordReplayQueuesTheRecordAgain : Prop :=
  ∀ (s : State) (p : Part) (tag : Byte) (id : BitVec 16), arbitrated s.part = p → Accepts tag p →
    (findRecord p id.toNat = none →
      exec (.recordReplay tag id) s = .next (s.withPart (Part.answered tag 0x43 .noSuch [] p))) ∧
    (∀ r : Record, findRecord p id.toNat = some r →
      let ln := p.lanes[r.lane]
      let replayed : Record := { r with state := .sealed, flags := { r.flags with replayed := true } }
      let queued : Part := { p with
        records := modifyFirst (fun x => x.id == id.toNat) (fun _ => replayed) p.records
        lanes := p.lanes.set r.lane.val { ln with queue := ln.queue ++ [id.toNat] } }
      let begun : Part → Host.Outcome State Fault Refusal := fun t => .next (s.withPart (Part.begun tag (0x43 :: wordBytes id) t))
      let sends : Fin 2 → Prop := fun b => ∃ t : Part,
        exec (.recordReplay tag id) s = begun t ∧
        t = { p with records := t.records, lanes := t.lanes } ∧
        t.records.map (fun x => x.id) = p.records.map (fun x => x.id) ∧
        (∀ other : Nat, other ≠ id.toNat → findRecord t other = findRecord p other) ∧
        t.lanes[1 - r.lane] = p.lanes[1 - r.lane] ∧
        findRecord t id.toNat = some (sendingOf replayed) ∧ t.lanes[r.lane] = headerStaged b replayed ln
      (r.state ≠ .delivered →
        exec (.recordReplay tag id) s = .next (s.withPart (Part.answered tag 0x43 .badState [] p))) ∧
      (r.state = .delivered →
        exec (.recordReplay tag id) s = begun (beginStaging r.lane queued) ∧
        (ln.current = none → ln.queue = [] → ln.awaiting = none → ln.buffers[ln.seq] = .empty → sends ln.seq) ∧
        (∀ (a : Awaiting) (k : Packet), (∀ c : Current, ln.current = some c → c.total ≤ c.next) → ln.queue = [] →
          ln.awaiting = some a → a.buffer = ln.seq → ln.buffers[ln.seq] = .holding k → ln.buffers[1 - ln.seq] = .empty →
          sends (1 - ln.seq)) ∧
        ((ln.awaiting = none → ln.buffers[ln.seq] ≠ .empty) →
          (∀ (a : Awaiting) (k : Packet), ln.awaiting = some a → a.buffer = ln.seq → ln.buffers[ln.seq] = .holding k →
            ln.buffers[1 - ln.seq] ≠ .empty) →
          exec (.recordReplay tag id) s = begun queued)))

/-! ### DLV: the lanes -/

/-- LANE_SET (R98): BAD_ARG outside the values, BUSY unless the lane is IDLE with no current record, and otherwise the four items written and the
four counters cleared. -/
def Obligations.LaneSetWritesTheConfiguration : Prop :=
  ∀ (s : State) (p : Part) (tag lane k : Byte) (ackTimeout backoff : BitVec 16) (retryLimit : Byte), arbitrated s.part = p → Accepts tag p →
    exec (.laneSet tag lane k ackTimeout backoff retryLimit) s = .next (s.withPart (
      if h : lane.toNat < 2 then
        let ln := p.lanes[lane.toNat]
        if k.toNat < 1 ∨ 15 < k.toNat ∨ ackTimeout.toNat < 1 ∨ 1000 < ackTimeout.toNat ∨ backoff.toNat < 1 ∨
            1000 < backoff.toNat ∨ 15 < retryLimit.toNat then
          Part.answered tag 0x50 .badArg [] p
        else if ln.state = .idle ∧ ln.current = none then
          Part.answered tag 0x50 .ok [] { p with
            lanes := p.lanes.set lane.toNat { ln with
              config :=
                { k := k.toNat
                  ackTimeout := ackTimeout.toNat
                  backoffInterval := backoff.toNat
                  retryLimit := retryLimit.toNat }
              counters := { transmissions := 0, resends := 0, stale := 0, completed := 0 } } }
        else Part.answered tag 0x50 .busy [] p
      else Part.answered tag 0x50 .badArg [] p))

/-- LANE_CLEAR_HALT (R116, R117): BAD_ARG and BAD_STATE change nothing. A HALTED lane gets no halt reason, s 0, RESYNC pending and a retry count of 0;
the resume packet (the awaiting packet, else what the send buffer holds or is filling) is in B0, an awaiting one still awaiting; what the other
buffer had is dropped, and the next staging index of its record, if that is current, is set back to it; the lane is READY if B0 HOLDS a packet,
else IDLE; and it checks its staging. The configuration, the counters, the delivery queue and the other lane keep their values. -/
def Obligations.LaneClearHaltRestoresTheLane : Prop :=
  ∀ (s : State) (p : Part) (tag lane : Byte), arbitrated s.part = p → Accepts tag p →
    (2 ≤ lane.toNat →
      exec (.laneClearHalt tag lane) s = .next (s.withPart (Part.answered tag 0x51 .badArg [] p))) ∧
    (∀ l : Fin 2, l.val = lane.toNat →
      let ln := p.lanes[l]
      (ln.state ≠ .halted →
        exec (.laneClearHalt tag lane) s = .next (s.withPart (Part.answered tag 0x51 .badState [] p))) ∧
      (ln.state = .halted →
        let inB1 : Bool := match ln.awaiting with
          | some a => decide (a.buffer = 1)
          | none => decide (ln.seq = 1 ∧ ln.buffers[1] ≠ .empty)
        let resume := if inB1 then ln.buffers[1] else ln.buffers[0]
        let dropped := if inB1 then ln.buffers[0] else ln.buffers[1]
        exec (.laneClearHalt tag lane) s = .next (s.withPart (Part.answered tag 0x51 .ok []
          (beginStaging l { p with lanes := p.lanes.set l.val { ln with
            state := if resume.holds then .ready else .idle
            halt := none
            seq := 0
            resync := true
            retries := 0
            buffers := #v[resume, .empty]
            awaiting := ln.awaiting.map (fun a => { a with buffer := 0 })
            current := match dropped.packet with
              | some k => ln.current.map (fun c => if c.recordId = k.recordId then { c with next := k.index } else c)
              | none => ln.current } })))))

/-- ACK with ACCEPT for a packet that is not its record's last (R92, R106): the awaiting packet is settled, both timers stop, the retry count is 0,
RESYNC pending is clear and s flips. With no copy in flight the send buffer is EMPTY at once and the lane is READY if the new send buffer HOLDS a
packet, else IDLE; with one in flight the lane stays SENDING and the buffer keeps its packet until the completion. The lane then checks its
staging. -/
def Obligations.AcceptanceSettlesThePacket : Prop :=
  ∀ (s : State) (p : Part) (lane seq verdict : Byte) (l : Fin 2) (a : Awaiting) (k : Packet), partFound (ackMeets lane) s.part = p →
    l.val = lane.toNat % 2 →
    let ln := p.lanes[l]
    ln.awaiting = some a → findRecord p a.recordId ≠ none → ln.seq.val = seq.toNat % 2 → verdict.toNat % 4 = 0 →
    (ln.state = .awaiting ∨ ln.state = .backoff ∨ ln.state = .ready ∨ (ln.state = .sending ∧ ln.haltNoted = false)) →
    a.buffer = ln.seq → ln.buffers[ln.seq] = .holding k → k.index + 1 ≠ k.total →
    exec (.ack lane seq verdict) s = .next (s.withPart (startAfter (ackMeets lane) s.part (beginStaging l { p with
      lnk := { p.lnk with parser := Parser.hunting }
      lanes := p.lanes.set l.val { ln with
        awaiting := none
        ackTimer := none
        backoffTimer := none
        retries := 0
        resync := false
        seq := 1 - ln.seq
        buffers := if ln.state = .sending then ln.buffers else ln.buffers.set ln.seq.val .empty
        releasing := if ln.state = .sending then some ln.seq else ln.releasing
        state := if ln.state = .sending then .sending
          else if (ln.buffers[1 - ln.seq]).holds then .ready else .idle } })))

/-- ACK with ACCEPT for a record's last packet (R93, R92, R13, R61): the delivery is counted, the record leaves the lane, and it is DELIVERED in its slot
if retain is yes; if retain is no it is freed, its chain at the tail of the free list, and the queue is re-examined. The packet is settled as any
other, s flips, and the lane then checks its staging. -/
def Obligations.FinalAcceptanceCompletesTheDelivery : Prop :=
  ∀ (s : State) (p : Part) (lane seq verdict : Byte) (l : Fin 2) (a : Awaiting) (k : Packet) (r : Record),
    partFound (ackMeets lane) s.part = p → l.val = lane.toNat % 2 →
    let ln := p.lanes[l]
    ln.awaiting = some a → findRecord p a.recordId = some r → ln.seq.val = seq.toNat % 2 → verdict.toNat % 4 = 0 →
    (ln.state = .awaiting ∨ ln.state = .backoff ∨ ln.state = .ready ∨ (ln.state = .sending ∧ ln.haltNoted = false)) →
    a.buffer = ln.seq → ln.buffers[ln.seq] = .holding k → k.index + 1 = k.total →
    let u := if r.retain then
        { p with records := modifyFirst (fun x => x.id == r.id) (fun x => { x with state := .delivered }) p.records }
      else reexamine { p with
        freeList := p.freeList ++ r.chain, records := p.records.eraseP (fun x => x.id == r.id) }
    exec (.ack lane seq verdict) s = .next (s.withPart (startAfter (ackMeets lane) s.part (beginStaging l { u with
      lnk := { p.lnk with parser := Parser.hunting }
      lanes := p.lanes.set l.val { ln with
        awaiting := none
        ackTimer := none
        backoffTimer := none
        retries := 0
        resync := false
        seq := 1 - ln.seq
        current := if ln.current.any (fun c => c.recordId == r.id) then none else ln.current
        counters := { ln.counters with completed := min (ln.counters.completed + 1) 65535 }
        buffers := if ln.state = .sending then ln.buffers else ln.buffers.set ln.seq.val .empty
        releasing := if ln.state = .sending then some ln.seq else ln.releasing
        state := if ln.state = .sending then .sending
          else if (ln.buffers[1 - ln.seq]).holds then .ready else .idle } })))

/-- ACK with RETRY, HOLD or HALT for the awaiting packet (R107 to R110, R115): a retry resends up to the retry limit and then halts the lane, a hold
starts the backoff timer, a halt halts the lane at once, or at the completion of a copy in flight. A stale ACK (R103, R104, R105, R175), one that does
not match the awaiting packet of the lane that bit 0 of its lane byte names or whose verdict the lane's state does not admit, counts the stale verdicts
counter and changes nothing else. -/
def Obligations.RetryHoldHaltAndStaleVerdicts : Prop :=
  (∀ (s : State) (p : Part) (lane seq verdict : Byte) (l : Fin 2) (a : Awaiting), partFound (ackMeets lane) s.part = p →
    l.val = lane.toNat % 2 →
    let ln := p.lanes[l]
    let base : Part := { p with lnk := { p.lnk with parser := Parser.hunting } }
    ln.awaiting = some a → findRecord p a.recordId ≠ none → ln.seq.val = seq.toNat % 2 →
    (ln.state = .awaiting → verdict.toNat % 4 = 1 →
      exec (.ack lane seq verdict) s = .next (s.withPart (startAfter (ackMeets lane) s.part (
        if ln.config.retryLimit < ln.retries + 1 then
          postReport (.laneHalted l .retryLimit ln.seq (some (a.recordId, a.index)) (ln.retries + 1)) { base with
            lanes := p.lanes.set l.val { ln with
              state := .halted, halt := some .retryLimit, haltNoted := false, retries := ln.retries + 1
              ackTimer := none, backoffTimer := none } }
        else { base with
          lanes := p.lanes.set l.val { ln with
            state := .ready, retries := ln.retries + 1, ackTimer := none } })))) ∧
    (ln.state = .awaiting → verdict.toNat % 4 = 2 →
      exec (.ack lane seq verdict) s = .next (s.withPart (startAfter (ackMeets lane) s.part { base with
        lanes := p.lanes.set l.val { ln with
          state := .backoff, ackTimer := none, backoffTimer := some ln.config.backoffInterval } }))) ∧
    (ln.state = .awaiting ∨ ln.state = .backoff ∨ ln.state = .ready → verdict.toNat % 4 = 3 →
      exec (.ack lane seq verdict) s = .next (s.withPart (startAfter (ackMeets lane) s.part (
        postReport (.laneHalted l .host ln.seq (some (a.recordId, a.index)) ln.retries) { base with
          lanes := p.lanes.set l.val { ln with
            state := .halted, halt := some .host, haltNoted := false, ackTimer := none, backoffTimer := none } })))) ∧
    (ln.state = .sending → ln.haltNoted = false → verdict.toNat % 4 = 3 →
      exec (.ack lane seq verdict) s = .next (s.withPart (startAfter (ackMeets lane) s.part { base with
        lanes := p.lanes.set l.val { ln with haltNoted := true } })))) ∧
  (∀ (s : State) (p : Part) (lane seq verdict : Byte) (l : Fin 2), partFound (ackMeets lane) s.part = p → l.val = lane.toNat % 2 →
    let ln := p.lanes[l]
    (¬ (∃ a : Awaiting, ln.awaiting = some a ∧ findRecord p a.recordId ≠ none ∧ ln.seq.val = seq.toNat % 2) ∨
      ln.state = .halted ∨
      ((ln.state = .backoff ∨ ln.state = .ready ∨ ln.state = .sending) ∧
        (verdict.toNat % 4 = 1 ∨ verdict.toNat % 4 = 2)) ∨
      (ln.state = .sending ∧ ln.haltNoted = true)) →
    exec (.ack lane seq verdict) s = .next (s.withPart (startAfter (ackMeets lane) s.part { p with
      lanes := p.lanes.set l.val { ln with
        counters := { ln.counters with stale := min (ln.counters.stale + 1) 65535 } }
      lnk := { p.lnk with parser := Parser.hunting } })))

/-- ACK_TIMER_EXPIRY and BACKOFF_TIMER_EXPIRY (R111, R112, R107): a running ack timer's expiry in AWAITING is a retry, a running backoff timer's in
BACKOFF makes the lane READY with the resend due, and a stopped timer does not expire. That such an event changes nothing is the
model's form (assumption 5), as is an expiry at any remaining time (assumption 13). -/
def Obligations.TimerExpiryRetriesOrResends : Prop :=
  ∀ (s : State) (p : Part) (l : Fin 2), arbitrated s.part = p →
    let ln := p.lanes[l]
    (ln.state = .awaiting → ln.ackTimer ≠ none →
      exec (.ackTimerExpiry l) s = .next (s.withPart (
        if ln.config.retryLimit < ln.retries + 1 then
          postReport (.laneHalted l .retryLimit ln.seq (ln.awaiting.map (fun a => (a.recordId, a.index))) (ln.retries + 1))
            { p with
              lanes := p.lanes.set l.val { ln with
                state := .halted, halt := some .retryLimit, haltNoted := false, retries := ln.retries + 1
                ackTimer := none, backoffTimer := none } }
        else { p with
          lanes := p.lanes.set l.val { ln with
            state := .ready, retries := ln.retries + 1, ackTimer := none } }))) ∧
    (ln.state ≠ .awaiting ∨ ln.ackTimer = none → exec (.ackTimerExpiry l) s = .next (s.withPart p)) ∧
    (ln.state = .backoff → ln.backoffTimer ≠ none →
      exec (.backoffTimerExpiry l) s = .next (s.withPart { p with
        lanes := p.lanes.set l.val { ln with state := .ready, backoffTimer := none } })) ∧
    (ln.state ≠ .backoff ∨ ln.backoffTimer = none → exec (.backoffTimerExpiry l) s = .next (s.withPart p))

/-- STAGING_END (R89, R85, R86): the buffer HOLDS the packet; a data packet's valid bytes are the record's stream bytes from (index - 1) × P on, and
zeros fill it up to a multiple of 32; the lane becomes READY if it was IDLE with nothing awaiting and the buffer is its send buffer; and the lane
checks its staging. A staging begins (R84, R88) into the EMPTY send buffer with nothing awaiting, or into the EMPTY spare buffer while the send buffer
holds the awaiting packet: of the current record's next packet if it has one, its valid bytes as R86 counts them, else of the header of the
record at the head of the queue, which becomes current and SENDING (R87, R179). A buffer that is not FILLING has no staging to end (assumption
5). -/
def Obligations.StagingEndFillsTheBuffer : Prop :=
  (∀ (s : State) (p : Part) (l b : Fin 2), arbitrated s.part = p →
    let ln := p.lanes[l]
    ((∀ k : Packet, ln.buffers[b] ≠ .filling k) → exec (.stagingEnd l b) s = .next (s.withPart p)) ∧
    (∀ k : Packet, ln.buffers[b] = .filling k →
      ∃ k' : Packet, exec (.stagingEnd l b) s = .next (s.withPart (beginStaging l { p with
          lanes := p.lanes.set l.val { ln with
            buffers := ln.buffers.set b.val (.holding k')
            state := if b = ln.seq ∧ ln.state = .idle ∧ ln.awaiting = none then .ready else ln.state } })) ∧
        k'.recordId = k.recordId ∧ k'.index = k.index ∧ k'.total = k.total ∧ k'.valid = k.valid ∧
        (k.index = 0 → k' = k) ∧
        (∀ r : Record, 1 ≤ k.index → findRecord p k.recordId = some r →
          let size := 64 * ln.config.k
          let count := (2 * r.words + size - 1) / size
          let valid := if k.index < count then size else 2 * r.words - (k.index - 1) * size
          k'.bytes.length = (valid + 31) / 32 * 32 ∧
          (∀ j : Nat, j < valid → k'.bytes[j]? = some (streamByte p.blocks r.chain ((k.index - 1) * size + j))) ∧
          (∀ j : Nat, valid ≤ j → j < (valid + 31) / 32 * 32 → k'.bytes[j]? = some 0)))) ∧
  (∀ (p : Part) (l : Fin 2),
    let ln := p.lanes[l]
    let free : Fin 2 → Prop := fun b => ln.buffers[b] = .empty ∧
      ((b = ln.seq ∧ ln.awaiting = none) ∨
        (b ≠ ln.seq ∧ ∃ (a : Awaiting) (k : Packet), ln.awaiting = some a ∧ a.buffer = ln.seq ∧ ln.buffers[ln.seq] = .holding k))
    ((∀ b : Fin 2, ¬ free b) → beginStaging l p = p) ∧
    ((∀ c : Current, ln.current = some c → c.total ≤ c.next) → ln.queue = [] → beginStaging l p = p) ∧
    (∀ (b : Fin 2) (c : Current) (r : Record), free b → ln.current = some c → c.next < c.total → findRecord p c.recordId = some r →
      let size := 64 * ln.config.k
      let packet : Packet :=
        if c.next = 0 then
          { recordId := r.id, index := 0, total := c.total, valid := (headerBytes r size c.total).length
            bytes := headerBytes r size c.total }
        else
          { recordId := r.id, index := c.next, total := c.total, bytes := []
            valid := if c.next < (2 * r.words + size - 1) / size then size else 2 * r.words - (c.next - 1) * size }
      beginStaging l p = { p with lanes := p.lanes.set l.val { ln with
        buffers := ln.buffers.set b.val (.filling packet), current := some { c with next := c.next + 1 } } }) ∧
    (∀ (b : Fin 2) (id : Nat) (behind : List Nat) (r : Record), free b → (∀ c : Current, ln.current = some c → c.total ≤ c.next) →
      ln.queue = id :: behind → findRecord p id = some r →
      beginStaging l p = { p with
        records := modifyFirst (fun x => x.id == id) sendingOf p.records
        lanes := p.lanes.set l.val { headerStaged b r ln with queue := behind } })) ∧
  (∀ (r : Record) (size total : Nat), headerBytes r size total =
    leBytes 2 r.id ++ [BitVec.ofNat 8 r.plan.val, BitVec.ofNat 8 r.lane.val] ++ wordBytes (r.sources.setWidth 16) ++ tickBytes r.tick ++
      leBytes 2 r.preRequested ++ leBytes 2 r.preStored ++ leBytes 2 r.postRequested ++ leBytes 2 r.postStored ++
      [BitVec.ofNat 8 r.decimation, r.channels] ++ leBytes 4 r.frames ++ leBytes 4 r.words ++
      [BitVec.ofNat 8 (r.flags.shortPre.toNat + 2 * r.flags.truncated.toNat + 4 * r.flags.clipped.toNat +
         8 * r.flags.rangeUnknown.toNat + 16 * r.flags.replayed.toNat), BitVec.ofNat 8 r.deliveries] ++
      leBytes 2 size ++ leBytes 2 total ++
      r.segments.flatMap (fun segments => BitVec.ofNat 8 segments.length :: segments.flatMap (fun g =>
        leBytes 3 g.frame ++ [match g.range with
          | some range => BitVec.ofNat 8 range
          | none => 0xFF])))

/-! ### LNK: the outbound side -/

/-- FRAME_START, and the start that other events find done (R165, R166, R90, R178, R82): with the link free, the response at the head of its
queue; else the report; else a DATA frame for a READY lane, the one whose turn it is if both are, with the DATA header from the lane as it stands; the
turn passes to the other lane. With a frame in flight, or nothing waiting, nothing starts. A lane that stands IDLE with its packet HELD and nothing
awaiting, as RESET FLUSH can leave one, first announces it as READY (assumption 14). A FRAME_START with none due while a command that takes time is in
execution says that its execution has ended: its OK is queued, and the start that is then due is made (assumption 7). An ACK for the lane whose DATA frame
is due, a RECORD_DISCARD and a RESET FLUSH meet that start and are taken first: such an event acts on the part with the lanes' announcements alone,
and the arbiter starts a frame after it (R97, R106, R109, R113); with a FRAME_START before it the start is first. That the due start comes
before every other later event, and not in the event that made it due, is the model's form (assumption 12). -/
def Obligations.FrameStartFollowsTheArbiterOrder : Prop :=
  (∀ (c : Instr) (s : State), startMeets (meetingLanes s.part c) s.part = false → exec c s = exec c (s.withPart (arbitrated s.part))) ∧
  (∀ (c : Instr) (s : State), startMeets (meetingLanes s.part c) s.part = true →
    exec c s = exec c (s.withPart (announced s.part)) ∧ ∃ q : Part, exec c s = .next (s.withPart (arbitrated q))) ∧
  (∀ s : State,
    let a : Part := { s.part with lanes := Vector.ofFn (fun l : Fin 2 =>
      let ln := s.part.lanes[l]
      if ln.state = .idle ∧ ln.awaiting = none ∧ (ln.buffers[ln.seq]).holds = true then { ln with state := .ready } else ln) }
    ((arbitrated s.part).lnk.inFlight ≠ none ∨ s.part.lnk.finishing = false →
      exec .frameStart s = .next (s.withPart (arbitrated s.part))) ∧
    (s.part.lnk.inFlight ≠ none → exec .frameStart s = .next (s.withPart a)) ∧
    (s.part.lnk.inFlight = none →
      (∀ (r : Response) (rest : List Response), s.part.lnk.responses = r :: rest →
        exec .frameStart s = .next (s.withPart { a with
          lnk := { a.lnk with
            responses := rest
            inFlight := some
              { cargo := .response r.resetFull
                bytes := frameBytes 0x20 r.tag (r.code :: r.status.toByte :: r.results)
                exchanged := 0 } } })) ∧
      (∀ (q : QueuedReport) (rest : List QueuedReport), s.part.lnk.responses = [] → s.part.lnk.reports = q :: rest →
        exec .frameStart s = .next (s.withPart { a with
          lnk := { a.lnk with
            reports := rest
            inFlight := some { cargo := .report, bytes := frameBytes 0x21 0 (reportPayload q), exchanged := 0 } } })) ∧
      (s.part.lnk.responses = [] → s.part.lnk.reports = [] →
        (∀ (l : Fin 2) (k : Packet),
          let ln := a.lanes[l]
          ln.state = .ready → ln.buffers[ln.seq] = .holding k → (l = a.lnk.turn ∨ a.lanes[a.lnk.turn].state ≠ .ready) →
          let q := beginStaging l { a with lanes := a.lanes.set l.val { ln with
            state := .sending
            awaiting := match ln.awaiting with
              | none => some { recordId := k.recordId, index := k.index, buffer := ln.seq }
              | some w => some w
            counters := { ln.counters with
              transmissions := min (ln.counters.transmissions + 1) 65535
              resends := if ln.awaiting = none then ln.counters.resends else min (ln.counters.resends + 1) 65535 } } }
          exec .frameStart s = .next (s.withPart { q with
            lnk := { a.lnk with
              turn := 1 - l
              inFlight := some
                { cargo := .data l
                  bytes := frameBytes 0x22 0
                    ([BitVec.ofNat 8 l.val,
                      BitVec.ofNat 8 (ln.seq.val + (if ln.resync then 2 else 0) + (if k.index + 1 = k.total then 4 else 0))] ++
                      leBytes 2 k.recordId ++ leBytes 2 k.index ++ leBytes 2 k.total ++ leBytes 2 k.valid ++ k.bytes)
                  exchanged := 0 } } })) ∧
        ((∀ l : Fin 2, a.lanes[l].state ≠ .ready) → s.part.lnk.finishing = false → exec .frameStart s = .next (s.withPart a)) ∧
        (∀ (c : IntakeCommand) (behind : List IntakeCommand), (∀ l : Fin 2, a.lanes[l].state ≠ .ready) →
          s.part.lnk.finishing = true → s.part.lnk.intake = c :: behind →
          exec .frameStart s = .next (s.withPart (arbitrated (drain { a with lnk := { a.lnk with
            finishing := false
            intake := behind
            responses := [reservedResponse c.tag (payloadCode c.payload) .ok []] } }))))))) ∧
  (∀ (lanes : Fin 2 → Bool) (p : Part),
    let a : Part := { p with lanes := Vector.ofFn (fun l : Fin 2 =>
      let ln := p.lanes[l]
      if ln.state = .idle ∧ ln.awaiting = none ∧ (ln.buffers[ln.seq]).holds = true then { ln with state := .ready } else ln) }
    let ready : Fin 2 → Prop := fun l => a.lanes[l].state = .ready ∧ (a.lanes[l].buffers[a.lanes[l].seq]).holds = true
    (startMeets lanes p = true ↔ p.lnk.inFlight = none ∧ p.lnk.responses = [] ∧ p.lnk.reports = [] ∧
      ∃ l : Fin 2, lanes l = true ∧ ready l ∧ (l = p.lnk.turn ∨ ¬ ready p.lnk.turn)) ∧
    partFound lanes p = (if startMeets lanes p then a else arbitrated p) ∧
    (∀ q : Part, startAfter lanes p q = if startMeets lanes p then arbitrated q else q)) ∧
  (∀ (lane : Byte) (l : Fin 2), ackMeets lane l = true ↔ l.val = lane.toNat % 2) ∧
  (∀ (payload : List Byte) (l : Fin 2),
    payloadMeets payload l = true ↔ payload = [0x03, 1] ∨ ∃ low high : Byte, payload = [0x41, low, high]) ∧
  (∀ (b : Byte) (x : Parser) (l : Fin 2), byteMeets b x l = true ↔
    ∃ (low n0 n1 kind tag : Byte) (payload : List Byte), x.state = .check ∧ x.crcLow = some low ∧
      x.kept = n0 :: n1 :: kind :: tag :: payload ∧ crc16 x.kept = b ++ low ∧
      ((kind = 0x10 ∧ payloadMeets payload l = true) ∨
        (kind = 0x11 ∧ ∃ lane seq verdict : Byte, payload = [lane, seq, verdict] ∧ ackMeets lane l = true)))

/-- FRAME_COMPLETE (R166, R91, R102, R110, R153): under UART, or under SPI once the host has clocked every byte, the link is free. A lane whose packet
still awaits a verdict is AWAITING with its ack timer started; a buffer settled in flight is EMPTY; a lane whose packet was settled takes the
state its send buffer gives, and after a RESET FLUSH it is IDLE whatever its send buffer holds; one with a noted halt is HALTED and reports it; and the
lane then checks its staging. With no frame in flight, or before the last byte under SPI, nothing completes (that such an event changes nothing is
the model's form, assumption 5; under UART the world says when the last byte has left the part, assumption 12). -/
def Obligations.FrameCompleteFreesTheLink : Prop :=
  ∀ (s : State) (p : Part) (pins : ResetPins), arbitrated s.part = p →
    (p.lnk.inFlight = none → exec (.frameComplete pins) s = .next (s.withPart p)) ∧
    (∀ f : InFlight, p.lnk.inFlight = some f →
      let free : Part := { p with lnk := { p.lnk with inFlight := none } }
      (p.lnk.transport = .spi → f.exchanged < f.bytes.length → exec (.frameComplete pins) s = .next (s.withPart p)) ∧
      (p.lnk.transport ≠ .spi ∨ f.bytes.length ≤ f.exchanged →
        (f.cargo = .report ∨ f.cargo = .response false → exec (.frameComplete pins) s = .next (s.withPart free)) ∧
        (∀ l : Fin 2, f.cargo = .data l →
          let ln := p.lanes[l]
          let left := match ln.releasing with
            | some b => ln.buffers.set b.val .empty
            | none => ln.buffers
          (ln.state ≠ .sending → exec (.frameComplete pins) s = .next (s.withPart free)) ∧
          (ln.state = .sending → ln.haltNoted = true →
            exec (.frameComplete pins) s = .next (s.withPart (beginStaging l (
              postReport (.laneHalted l .host ln.seq (ln.awaiting.map (fun a => (a.recordId, a.index))) ln.retries) { free with
                lanes := p.lanes.set l.val { ln with
                  buffers := left, releasing := none, state := .halted, halt := some .host, haltNoted := false
                  ackTimer := none, backoffTimer := none } })))) ∧
          (ln.state = .sending → ln.haltNoted = false →
            exec (.frameComplete pins) s = .next (s.withPart (beginStaging l { free with
              lanes := p.lanes.set l.val { ln with
                buffers := left
                releasing := none
                flushed := false
                state := if ln.awaiting ≠ none then .awaiting else if ln.flushed then .idle
                  else if (left[ln.seq]).holds then .ready else .idle
                ackTimer := if ln.awaiting ≠ none then some ln.config.ackTimeout else ln.ackTimer } }))))))

/-- RESET_FULL (R169, R171, R20, R58, R135, R152): the OK response is queued and the command stays in execution with its tag in use; at the completion of that
response's frame the device reset takes effect with cause COMMAND, whatever else waits: the straps and the lines are read, and RESET_DONE is the one
report that waits. That the codes of history and the words of the blocks stay is the model's choice (assumption 1). -/
def Obligations.ResetFullTakesEffectAtItsFramesEnd : Prop :=
  ∀ (s : State) (p : Part) (tag : Byte) (pins : ResetPins), arbitrated s.part = p →
    (Accepts tag p →
      exec (.resetFull tag) s = .next (s.withPart { p with
        lnk := { p.lnk with
          parser := Parser.hunting
          intake := [{ tag := tag, payload := [0x03, 0] }]
          resetting := true
          responses := p.lnk.responses ++ [{ reservedResponse tag 0x03 .ok [] with resetFull := true }] } })) ∧
    (∀ f : InFlight, p.lnk.inFlight = some f → f.cargo = .response true →
      (p.lnk.transport ≠ .spi ∨ f.bytes.length ≤ f.exchanged) →
      ∃ t : Part, exec (.frameComplete pins) s = .next (s.withPart t) ∧
        t.smp = State.reset.part.smp ∧ t.fill = State.reset.part.fill ∧ t.channels = State.reset.part.channels ∧
        t.detectors = State.reset.part.detectors ∧ t.trg = State.reset.part.trg ∧ t.plans = State.reset.part.plans ∧
        t.jobs = [] ∧ t.slots = State.reset.part.slots ∧ t.freeList = List.range 1024 ∧ t.records = [] ∧ t.nextId = 1 ∧
        t.lanes = State.reset.part.lanes ∧ t.history = p.history ∧ t.blocks = p.blocks ∧
        (∀ l : Fin 4, t.lines[l] =
          { enabled := false, edge := .rising, level := pins.ext[l], reference := pins.ext[l], latch := false }) ∧
        t.lnk = { State.reset.part.lnk with
          transport := if pins.spi then .spi else
            .uart (match pins.baud1, pins.baud0 with
              | false, false => 0
              | false, true => 1
              | true, false => 2
              | true, true => 3)
          reports := [{ lost := 0, report := .resetDone .command }] })

/-- RESET_FLUSH (R170, R21, R40, R80, R102, R151, R161): jobs, windows and records go, the free list is rebuilt, RUNNING and DRAINING plans become READY,
the lock counts return to 0 and the lanes are cleared, a lane with a frame in flight staying SENDING, its flush remembered until the frame's
completion, with the buffer in flight kept until then. The Sampler, history, ranges, the Trigger Unit, the ID counter and the link's other state
stay. The command stays in execution until its OK is queued (assumption 7). -/
def Obligations.ResetFlushClearsTheCaptureSide : Prop :=
  ∀ (s : State) (p : Part) (tag : Byte), partFound (fun _ => true) s.part = p → Accepts tag p →
    ∃ t : Part, exec (.resetFlush tag) s = .next (s.withPart (startAfter (fun _ => true) s.part (Part.begun tag [0x03, 1] t))) ∧
      t.jobs = [] ∧ (∀ w : Fin 4, t.slots[w] = none) ∧ t.records = [] ∧ t.freeList = List.range 1024 ∧
      (∀ i : Fin 8, t.plans[i] = if p.plans[i].state = .running ∨ p.plans[i].state = .draining then
        { p.plans[i] with state := .ready, openRecord := none } else p.plans[i]) ∧
      (∀ c : Fin 8, t.channels[c] = { p.channels[c] with lockCount := 0 }) ∧
      (∀ l : Fin 2,
        let ln := p.lanes[l]
        let flight : Option (Fin 2) := if ln.state = .sending then
            match ln.awaiting with
            | some a => some a.buffer
            | none => ln.releasing
          else none
        t.lanes[l] = { ln with
          state := if ln.state = .sending then .sending else .idle
          flushed := decide (ln.state = .sending)
          releasing := flight
          buffers := Vector.ofFn (fun b : Fin 2 => if flight = some b then ln.buffers[b] else .empty)
          halt := none, queue := [], current := none, seq := 0, resync := true, awaiting := none, haltNoted := false
          retries := 0, ackTimer := none, backoffTimer := none }) ∧
      t = { p with
        jobs := t.jobs, slots := t.slots, records := t.records, freeList := t.freeList, plans := t.plans
        channels := t.channels, lanes := t.lanes }

/-- SPI (R152, R153, R154, R166). The attention line is asserted exactly while a response or a report waits, a lane is READY or an outbound frame is in
flight; under UART it is deasserted; it is computed, not stored (assumption 19). A byte exchanged with the host carries the next byte of the frame
in flight, which then has one byte less to send, or the fill byte 00h; the byte of the host goes to the parser; and the exchange of the frame's last
byte completes the frame, after the inbound byte's effect (assumption 26). -/
def Obligations.SpiExchangesBytesAndRaisesAttention : Prop :=
  (∀ p : Part,
    (p.lnk.transport = .spi →
      (attention p = true ↔ p.lnk.responses ≠ [] ∨ p.lnk.reports ≠ [] ∨ (∃ l : Fin 2, p.lanes[l].state = .ready) ∨
        p.lnk.inFlight ≠ none)) ∧
    (∀ r : Fin 4, p.lnk.transport = .uart r → attention p = false)) ∧
  (∀ (s : State) (p : Part) (b : Byte) (pins : ResetPins), partFound (byteMeets b s.part.lnk.parser) s.part = p → p.lnk.transport = .spi →
    (p.lnk.inFlight = none →
      exec (.inboundByte ⟨b, pins⟩) s = .next (s.withPart (startAfter (byteMeets b s.part.lnk.parser) s.part
        (parseByte b { p with lnk := { p.lnk with sdo := 0 } })))) ∧
    (∀ f : InFlight, p.lnk.inFlight = some f → f.exchanged < f.bytes.length →
      let q : Part := { p with lnk := { p.lnk with
        sdo := f.bytes.getD f.exchanged 0
        inFlight := some { f with exchanged := f.exchanged + 1 } } }
      (f.exchanged + 1 ≠ f.bytes.length → exec (.inboundByte ⟨b, pins⟩) s = .next (s.withPart (parseByte b q))) ∧
      (f.exchanged + 1 = f.bytes.length →
        exec (.inboundByte ⟨b, pins⟩) s = .next (s.withPart (completeFrame pins (parseByte b q))) ∧
        (p.lnk.parser.state = .hunt → b ≠ 0xC3 → f.cargo = .report ∨ f.cargo = .response false →
          exec (.inboundByte ⟨b, pins⟩) s = .next (s.withPart { q with lnk := { q.lnk with inFlight := none } }))))) ∧
  (∀ (s : State) (p : Part) (pins : ResetPins), arbitrated s.part = p →
    exec (.frameComplete pins) s = .next (s.withPart (completeFrame pins p)))

/-! ### LNK: the command side -/

/-- COMMAND_FRAME (R159, R160, R161, R156): refused with BAD_ARG for tag 0, else with TAG_IN_USE, else with OVERFLOW at an intake load of 4, by an
immediate response with the payload's first byte as its code, or by a discard with cause NO_ROOM when four immediate responses wait; else admitted:
behind a command in execution it waits, and otherwise it executes, as the row of the command it carries does. A RESET or PLAN_STOP whose mode byte
names no mode has no row, and is answered with BAD_ARG. -/
def Obligations.CommandFrameIsAdmittedOrRefused : Prop :=
  (∀ (s : State) (p : Part) (tag : Byte) (payload : List Byte), partFound (payloadMeets payload) s.part = p →
    let base : Part := { p with lnk := { p.lnk with parser := Parser.hunting } }
    let refusal : Option Status :=
      if tag = 0 then some .badArg
      else if ∃ c ∈ p.lnk.intake, c.tag = tag then some .tagInUse
      else if 4 ≤ intakeLoad p.lnk then some .overflow
      else none
    let queued : Part := { base with
      lnk := { base.lnk with intake := p.lnk.intake ++ [{ tag := tag, payload := payload }] } }
    (∀ status : Status, refusal = some status →
      exec (.commandFrame tag payload) s = .next (s.withPart (startAfter (payloadMeets payload) s.part (
        if unreservedInUse p.lnk < 4 then
          { base with lnk := { base.lnk with
              responses := p.lnk.responses ++ [immediateResponse tag (payload.headD 0) status] } }
        else
          postReport (.linkError .noRoom (some tag)) { base with
            lnk := { base.lnk with
              errors := { p.lnk.errors with noRoom := min (p.lnk.errors.noRoom + 1) 65535 } } })))) ∧
    (refusal = none →
      (p.trg.run ≠ none ∨ p.lnk.finishing = true ∨ p.lnk.resetting = true →
        exec (.commandFrame tag payload) s = .next (s.withPart (startAfter (payloadMeets payload) s.part queued))) ∧
      (p.trg.run = none → p.lnk.finishing = false → p.lnk.resetting = false →
        exec (.commandFrame tag payload) s = .next (s.withPart (startAfter (payloadMeets payload) s.part (drain queued)))))) ∧
  (∀ (s : State) (tag : Byte) (c : Command) (i : Instr), commandRow tag c = some i →
    exec (.commandFrame tag (encodeCommand c)) s = exec i s) ∧
  (∀ (s : State) (p : Part) (tag plan mode : Byte), arbitrated s.part = p → Accepts tag p → 2 ≤ mode.toNat →
    exec (.commandFrame tag [0x03, mode]) s = .next (s.withPart (Part.answered tag 0x03 .badArg [] p)) ∧
    exec (.commandFrame tag [0x33, plan, mode]) s = .next (s.withPart (Part.answered tag 0x33 .badArg [] p)))

/-- The bytes of the messages (R172, R176, R177; sections 10.1, 10.4 and 10.5). A frame is the start marker, the length, the kind, the tag, the payload and the
CRC, low byte first; the CRC begins with FFFFh and takes each byte by the exclusive-or of its upper half and eight shifts, each combined with 8005h
where the bit shifted out is 1. A response is its command's code, its status code and its results. A report is its kind code, the lost count it
carries and the body of its kind. -/
def Obligations.MessagesFollowTheirTables : Prop :=
  ((∀ (kind tag : Byte) (payload : List Byte),
      let body := leBytes 2 (payload.length + 2) ++ kind :: tag :: payload
      frameBytes kind tag payload = 0xC3 :: (body ++ wordBytes (crc16 body))) ∧
    crc16 [] = 0xFFFF ∧
    (∀ (bytes : List Byte) (b : Byte), crc16 (bytes ++ [b]) =
      (List.range 8).foldl (fun (v : BitVec 16) _ => if v.getLsbD 15 = true then (v <<< 1) ^^^ 0x8005 else v <<< 1)
        (crc16 bytes ^^^ (b.setWidth 16 <<< 8))) ∧
    (∀ w : BitVec 16, wordBytes w = [BitVec.ofNat 8 w.toNat, BitVec.ofNat 8 (w.toNat / 256)]) ∧
    (∀ n v : Nat, (leBytes n v).length = n ∧ ∀ i : Nat, i < n → (leBytes n v)[i]? = some (BitVec.ofNat 8 (v / 256 ^ i))) ∧
    (∀ tick : Nat, tick ≤ 281474976710655 → tickBytes tick = leBytes 6 tick)) ∧
  ((∀ r : Response, responsePayload r = r.code :: r.status.toByte :: r.results) ∧
    [Status.ok, .unknownCommand, .badLength, .badArg, .badState, .busy, .locked, .noSuch, .unsupported, .overflow,
      .tagInUse].map Status.toByte = [0x00, 0x01, 0x02, 0x03, 0x04, 0x05, 0x06, 0x07, 0x08, 0x09, 0x0A]) ∧
  (∀ lost : Nat,
    let one : Nat → Byte := fun n => BitVec.ofNat 8 n
    let two := leBytes 2
    let payload : Report → List Byte := fun r => reportPayload { lost := lost, report := r }
    let report : Byte → List Byte → List Byte := fun kind body => kind :: one lost :: body
    (∀ cause : ResetCause, payload (.resetDone cause) =
      report 0x01 [match cause with
        | .power => 0
        | .pin => 1
        | .command => 2]) ∧
    (∀ (cause : LinkCause) (tag : Option Byte), payload (.linkError cause tag) =
      report 0x02 ([match cause with
        | .length => 0
        | .crc => 1
        | .kind => 2
        | .gap => 3
        | .cut => 4
        | .noRoom => 5] ++ (match tag with
        | some t => [1, t]
        | none => [0, 0]))) ∧
    (∀ (i : Fin 8) (tick : Nat) (sources : SourceSet),
      payload (.jobDropped i tick sources .busy) =
        report 0x03 (one i.val :: (tickBytes tick ++ wordBytes (sources.setWidth 16) ++ [0])) ∧
      payload (.jobDropped i tick sources .queueFull) =
        report 0x03 (one i.val :: (tickBytes tick ++ wordBytes (sources.setWidth 16) ++ [1])) ∧
      payload (.jobExpired i tick .history) = report 0x04 (one i.val :: (tickBytes tick ++ [0])) ∧
      payload (.jobExpired i tick .samplingStopped) = report 0x04 (one i.val :: (tickBytes tick ++ [1]))) ∧
    (∀ (i : Fin 8) (state : PlanState) (halt : Option PlanHalt) (removed : Nat), payload (.planState i state halt removed) =
      report 0x05 [one i.val, match state with
        | .empty => 0
        | .ready => 1
        | .running => 2
        | .draining => 3
        | .done => 4
        | .halted => 5, match halt with
        | none => 0
        | some .hostAbort => 1
        | some .samplingStopped => 2, one removed]) ∧
    (∀ (id : Nat) (i : Fin 8) (l : Fin 2) (flags : RecordFlags) (words : Nat), payload (.recordSealed id i l flags words) =
      report 0x06 (two id ++ [one i.val, one l.val, one (flags.shortPre.toNat + 2 * flags.truncated.toNat +
        4 * flags.clipped.toNat + 8 * flags.rangeUnknown.toNat + 16 * flags.replayed.toNat)] ++ leBytes 4 words)) ∧
    (∀ (l : Fin 2) (id reached : Nat), payload (.recordAbandoned l id reached) = report 0x07 (one l.val :: (two id ++ two reached))) ∧
    (∀ (l seq : Fin 2) (packet : Option (Nat × Nat)) (retries : Nat),
      let awaiting : List Byte := match packet with
        | some (id, index) => two id ++ two index
        | none => [0, 0, 0, 0]
      payload (.laneHalted l .host seq packet retries) = report 0x08 ([one l.val, 1, one seq.val] ++ awaiting ++ [one retries]) ∧
      payload (.laneHalted l .retryLimit seq packet retries) =
        report 0x08 ([one l.val, 2, one seq.val] ++ awaiting ++ [one retries])) ∧
    (∀ (c : Fin 8) (old new : Nat) (once : Bool), payload (.rangeChanged c old new once) =
      report 0x09 [one c.val, one old, one new, if once then 1 else 0]) ∧
    (∀ (c : Fin 8) (range : Nat) (outcome : PassOutcome), payload (.rangeSettled c range outcome) =
      report 0x0A [one c.val, one range, match outcome with
        | .settled => 0
        | .limit => 1
        | .cancelled => 2]) ∧
    (∀ tick : Nat, payload (.samplerStopped tick) = report 0x0B (0 :: tickBytes tick)))

/-- UNKNOWN_COMMAND, and a payload of a wrong length (R162, R173): an empty payload, or a code that is not in the command table, is answered with
UNKNOWN_COMMAND and the code as received; a known code with another payload length than the table's, with BAD_LENGTH. Nothing else changes. -/
def Obligations.LinkChecksAnswerWithoutEffect : Prop :=
  ∀ (s : State) (p : Part) (tag : Byte) (payload : List Byte), arbitrated s.part = p → Accepts tag p →
    (payload = [] ∨ commandLength (payload.headD 0) = none →
      exec (.unknownCommand tag payload) s =
        .next (s.withPart (Part.answered tag (payload.headD 0) .unknownCommand [] p)) ∧
      exec (.commandFrame tag payload) s = exec (.unknownCommand tag payload) s) ∧
    (∀ (code : Byte) (arguments : List Byte) (n : Nat), payload = code :: arguments → commandLength code = some n →
      payload.length ≠ n →
      exec (.commandFrame tag payload) s = .next (s.withPart (Part.answered tag code .badLength [] p)))

/-- INQUIRE, STATUS, CHANNEL_GET, PLAN_GET, RECORD_LIST and LANE_GET (R167, R168, R149, R34, R14, R99, R176; sections 10.4.1 and 10.4.3 to 10.4.7): each
answers from the part as it stands and changes nothing; an index above the last is BAD_ARG. The bytes are those of the tables of section 10.4.
Two readings in them are the model's: STATUS sees itself at the head of the intake queue and the parser back in HUNT, since it executes in its
own frame's CHECK event (assumption 18), and a window's tick beyond 2^48 - 1 has no stated bytes (assumption 2). -/
def Obligations.QueriesAnswerWithoutEffect : Prop :=
  (∀ (s : State) (p : Part) (tag index : Byte), arbitrated s.part = p → Accepts tag p →
    let asExecuting : Part := { p with
      lnk := { p.lnk with parser := Parser.hunting, intake := [{ tag := tag, payload := [0x02] }] } }
    exec (.inquire tag) s = .next (s.withPart (Part.answered tag 0x01 .ok
      ([1, 1, 8, 0x3F, 7, 3, 7, 0x00, 0x40, 0x00, 0x04, 0x00, 0x01, 32, 4, 8, 8, 2, 0x00, 0x04, 4] ++
        (match p.lnk.transport with
          | .uart r => [0, BitVec.ofNat 8 r.val]
          | .spi => [1, 0xFF])) p)) ∧
    exec (.status tag) s = .next (s.withPart (Part.answered tag 0x02 .ok (statusResults asExecuting) p)) ∧
    (statusResults asExecuting).length = 326 + 9 * p.jobs.length ∧
    exec (.recordList tag) s = .next (s.withPart (Part.answered tag 0x40 .ok (recordListResults p) p)) ∧
    (∀ c : Fin 8, c.val = index.toNat →
      exec (.channelGet tag index) s = .next (s.withPart (Part.answered tag 0x1A .ok (channelResults c p.channels[c]) p)) ∧
      (channelResults c p.channels[c]).length = 15 + 7 * p.channels[c].log.length ∧
      exec (.planGet tag index) s = .next (s.withPart (Part.answered tag 0x34 .ok (planResults p c) p)) ∧
      (planResults p c).length = 42) ∧
    (8 ≤ index.toNat →
      exec (.channelGet tag index) s = .next (s.withPart (Part.answered tag 0x1A .badArg [] p)) ∧
      exec (.planGet tag index) s = .next (s.withPart (Part.answered tag 0x34 .badArg [] p))) ∧
    (∀ l : Fin 2, l.val = index.toNat →
      exec (.laneGet tag index) s = .next (s.withPart (Part.answered tag 0x52 .ok (laneResults l p.lanes[l]) p)) ∧
      (laneResults l p.lanes[l]).length = 49 + 2 * p.lanes[l].queue.length) ∧
    (2 ≤ index.toNat → exec (.laneGet tag index) s = .next (s.withPart (Part.answered tag 0x52 .badArg [] p)))) ∧
  (∀ p : Part,
    let flag : Bool → Byte := fun b => if b then 1 else 0
    let one : Nat → Byte := fun n => BitVec.ofNat 8 n
    let two := leBytes 2
    let tick : Option Nat → List Byte := fun t => match t with
      | some n => 1 :: tickBytes n
      | none => [0, 0, 0, 0, 0, 0, 0]
    let flags : RecordFlags → Byte := fun f => one (f.shortPre.toNat + 2 * f.truncated.toNat + 4 * f.clipped.toNat +
      8 * f.rangeUnknown.toNat + 16 * f.replayed.toNat)
    let sources : SourceSet → List Byte := fun x => wordBytes (x.setWidth 16)
    let inState : RecordState → Byte := fun st => one (p.records.filter (fun r => decide (r.state = st))).length
    (∀ (i : Fin 8) (c : Channel), channelResults i c =
      [one i.val, one c.range, c.mode.toByte, one c.lockCount] ++
        (match c.counted with
          | some n => [1, one n]
          | none => [0, 0]) ++
        [one c.spanPos, one c.baseRange] ++ tickBytes c.baseTick ++
        one c.log.length :: c.log.flatMap (fun e => tickBytes e.tick ++ [one e.range])) ∧
    (∀ i : Fin 8, planResults p i =
      let pl := p.plans[i]
      [one i.val, pl.state.toByte, planHaltByte pl.haltReason] ++
        (match pl.definition with
          | some d => 1 :: (wordBytes (d.channels.setWidth 16) ++ [one d.decimation] ++ two d.pre ++ two d.post ++ sources d.sources ++
              (match d.runMode with
                | .single => [0, 0]
                | .count n => [1, one n]
                | .continuous => [2, 0]) ++
              [if d.policy = .queue then 0 else 1] ++ two d.holdoff ++ [one d.lane.val, flag d.retain])
          | none => List.replicate 17 0) ++
        (match pl.shots with
          | .count n => two n
          | .unlimited => [0xFF, 0xFF]) ++
        tick pl.lastAccepted ++ [one (p.jobs.filter (fun j => j.plan == i)).length] ++ two (pl.openRecord.getD 0) ++
        two pl.counters.accepted ++ two pl.counters.droppedBusy ++ two pl.counters.droppedFull ++
        two pl.counters.ignoredHoldoff ++ two pl.counters.expired) ∧
    recordListResults p = one p.records.length :: p.records.flatMap (fun r =>
      two r.id ++ [r.state.toByte, one r.plan.val, one r.lane.val] ++ leBytes 4 r.words ++ [flags r.flags, one r.deliveries]) ∧
    (∀ (i : Fin 2) (ln : Lane), laneResults i ln =
      let buffer : Buffer → List Byte := fun x => match x with
        | .empty => [0, 0, 0, 0, 0]
        | .filling k => 1 :: (two k.recordId ++ two k.index)
        | .holding k => 2 :: (two k.recordId ++ two k.index)
      let timer : Option Nat → List Byte := fun t => match t with
        | some ms => 1 :: two ms
        | none => [0, 0, 0]
      [one i.val, ln.state.toByte, laneHaltByte ln.halt, flag ln.haltNoted, one ln.seq.val, flag ln.resync] ++
        ([one ln.config.k] ++ two ln.config.ackTimeout ++ two ln.config.backoffInterval ++ [one ln.config.retryLimit]) ++
        (two ln.counters.transmissions ++ two ln.counters.resends ++ two ln.counters.stale ++ two ln.counters.completed) ++
        [one ln.retries] ++
        (match ln.current with
          | some c => two c.recordId ++ two c.total ++ two c.next
          | none => [0, 0, 0, 0, 0, 0]) ++
        (match ln.awaiting with
          | some a => two a.recordId ++ two a.index ++ [one a.buffer.val]
          | none => [0, 0, 0, 0, 0]) ++
        (buffer ln.buffers[0] ++ buffer ln.buffers[1]) ++ (timer ln.ackTimer ++ timer ln.backoffTimer) ++
        one ln.queue.length :: ln.queue.flatMap two) ∧
    statusResults p =
      ([flag p.smp.running, one p.smp.rateCode, p.smp.enabled] ++ tickBytes p.smp.tickCounter ++ tick p.smp.newest ++
        two (p.fill.toList.foldl max 0) ++ tickBytes ((p.smp.newest.map (fun n => n - 16383)).getD 0)) ++
      p.channels.toList.flatMap (fun c => [one c.range, c.mode.toByte, one c.lockCount]) ++
      p.lines.toList.flatMap (fun x => [flag x.enabled, x.edge.toByte, flag x.level, flag x.latch]) ++
      p.detectors.toList.flatMap (fun d =>
        [flag d.enabled] ++ wordBytes d.threshold ++ two d.hysteresis ++ [d.direction.toByte, d.state.toByte]) ++
      (leBytes 4 p.trg.offerCount ++ (match p.trg.lastOffer with
        | some o => 1 :: (tickBytes o.1 ++ sources o.2)
        | none => List.replicate 9 0)) ++
      p.plans.toList.map (fun pl => pl.state.toByte) ++
      p.slots.toList.flatMap (fun o => match o with
        | none => List.replicate 33 0
        | some w => 1 :: (two w.recordId ++ [one w.plan.val] ++ tickBytes w.tick ++ tickBytes w.first ++ tickBytes w.last ++
            [w.phase.toByte] ++ tickBytes (if w.phase = .copying then w.copyPos else 0) ++
            leBytes 4 (((findRecord p w.recordId).map (fun r => r.frames)).getD 0))) ++
      (two p.freeList.length ++ two (p.records.map (fun r => r.chain.length)).sum ++
        two ((p.records.filter (fun r => decide (r.state = .opened))).map (fun r => r.chain.length - (r.words + 255) / 256)).sum ++
        [one p.records.length, inState .opened, inState .sealed, inState .sending, inState .delivered] ++ two p.nextId) ++
      p.lanes.toList.flatMap (fun ln => [ln.state.toByte, laneHaltByte ln.halt, one ln.queue.length] ++
        two ((ln.current.map (fun c => c.recordId)).getD 0) ++ [one ln.seq.val, flag ln.resync]) ++
      ((match p.lnk.transport with
          | .uart r => [0, one r.val]
          | .spi => [1, 0xFF]) ++
        [p.lnk.parser.state.toByte, one p.lnk.intake.length] ++
        (p.lnk.intake.map (fun (c : IntakeCommand) => c.tag) ++ [0, 0, 0, 0]).take 4 ++
        [one (p.lnk.responses.filter (fun r => r.reserved)).length, one (p.lnk.responses.filter (fun r => !r.reserved)).length,
          one p.lnk.reports.length, one p.lnk.lost, one p.lnk.turn.val] ++
        two p.lnk.errors.length ++ two p.lnk.errors.crc ++ two p.lnk.errors.kind ++ two p.lnk.errors.gap ++
        two p.lnk.errors.cut ++ two p.lnk.errors.noRoom) ++
      one p.jobs.length :: p.jobs.flatMap (fun j => one j.plan.val :: (tickBytes j.tick ++ sources j.sources))) ∧
  ([RangeMode.manual, .track, .once].map RangeMode.toByte = [0, 1, 2] ∧
    [PlanState.empty, .ready, .running, .draining, .done, .halted].map PlanState.toByte = [0, 1, 2, 3, 4, 5] ∧
    [none, some PlanHalt.hostAbort, some .samplingStopped].map planHaltByte = [0, 1, 2] ∧
    [RecordState.opened, .sealed, .sending, .delivered].map RecordState.toByte = [0, 1, 2, 3] ∧
    [LaneState.idle, .ready, .sending, .awaiting, .backoff, .halted].map LaneState.toByte = [0, 1, 2, 3, 4, 5] ∧
    [none, some LaneHalt.host, some .retryLimit].map laneHaltByte = [0, 1, 2] ∧
    [EdgeSel.rising, .falling, .both].map EdgeSel.toByte = [0, 1, 2] ∧
    [Direction.rising, .falling, .either].map Direction.toByte = [0, 1, 2] ∧
    [DetectorState.unknown, .below, .above].map DetectorState.toByte = [0, 1, 2] ∧
    [Phase.copying, .live, .ended].map Phase.toByte = [0, 1, 2] ∧
    [ParserState.hunt, .length, .body, .check].map ParserState.toByte = [0, 1, 2, 3])

/-! ### LNK: the inbound parser -/

/-- INBOUND_BYTE under UART (R155, R156, R158, R175): the rows of the parser's table. At the second CRC byte a frame whose CRC differs is discarded as
CRC; with a good CRC a COMMAND goes to admission, an ACK of three payload bytes to its lane, an ACK of another length is discarded as LENGTH, and any
other kind as KIND, each with the frame's tag. -/
def Obligations.InboundByteDrivesTheParser : Prop :=
  ∀ (s : State) (p : Part) (b : Byte) (pins : ResetPins) (rate : Fin 4), partFound (byteMeets b s.part.lnk.parser) s.part = p → p.lnk.transport = .uart rate →
    let x := p.lnk.parser
    let parsed : Parser → Part := fun y => { p with lnk := { p.lnk with parser := y } }
    exec (.inboundByte ⟨b, pins⟩) s = .next (s.withPart (startAfter (byteMeets b s.part.lnk.parser) s.part (parseByte b p))) ∧
    (x.state = .hunt → b ≠ 0xC3 → exec (.inboundByte ⟨b, pins⟩) s = .next (s.withPart p)) ∧
    (x.state = .hunt → b = 0xC3 → exec (.inboundByte ⟨b, pins⟩) s = .next (s.withPart (parsed
      { state := .length, kept := [], length := 0, crcLow := none, gap := 0 }))) ∧
    (x.state = .length → x.kept = [] →
      exec (.inboundByte ⟨b, pins⟩) s = .next (s.withPart (parsed { x with kept := [b], gap := 0 }))) ∧
    (∀ low : Byte, x.state = .length → x.kept = [low] →
      let n := low.toNat + 256 * b.toNat
      exec (.inboundByte ⟨b, pins⟩) s = .next (s.withPart (
        if 2 ≤ n ∧ n ≤ 1026 then parsed { x with state := .body, kept := [low, b], length := n, gap := 0 }
        else postReport (.linkError .length none) { p with
          lnk := { p.lnk with
            parser := Parser.hunting
            errors := { p.lnk.errors with length := min (p.lnk.errors.length + 1) 65535 } } }))) ∧
    (x.state = .body → exec (.inboundByte ⟨b, pins⟩) s = .next (s.withPart (parsed { x with
      state := if x.length + 2 ≤ x.kept.length + 1 then .check else .body, kept := x.kept ++ [b], gap := 0 }))) ∧
    (x.state = .check → x.crcLow = none →
      exec (.inboundByte ⟨b, pins⟩) s = .next (s.withPart (parsed { x with crcLow := some b, gap := 0 }))) ∧
    (∀ (low n0 n1 kind tag : Byte) (payload : List Byte), x.state = .check → x.crcLow = some low →
      x.kept = n0 :: n1 :: kind :: tag :: payload →
      exec (.inboundByte ⟨b, pins⟩) s =
        if crc16 x.kept ≠ b ++ low then exec (.frameDiscard .badCrc (some tag)) s
        else if kind = 0x10 then exec (.commandFrame tag payload) s
        else if kind = 0x11 then
          match payload with
          | [lane, seq, verdict] => exec (.ack lane seq verdict) s
          | _ => exec (.frameDiscard .badLength (some tag)) s
        else exec (.frameDiscard .badKind (some tag)) s)

/-- FRAME_DISCARD, GAP_EXPIRY and CS_RISE (R156, R157, R153, R168, R164): the parser returns to HUNT, the cause's counter counts and LINK_ERROR is posted
with the tag if it had been taken; a gap or a rise of CS# in HUNT, or under the other transport, changes nothing. A post finds a place among
sixteen, carrying the lost count, or raises the lost count. (An event that
its rule does not admit changes nothing: assumption 5.) -/
def Obligations.DiscardsCountAndReport : Prop :=
  ∀ (s : State) (p : Part), arbitrated s.part = p →
    let e := p.lnk.errors
    let dropped : LinkErrors → Part := fun e' => { p with
      lnk := { p.lnk with parser := Parser.hunting, errors := e' } }
    (∀ tag : Option Byte,
      exec (.frameDiscard .badLength tag) s = .next (s.withPart
        (postReport (.linkError .length tag) (dropped { e with length := min (e.length + 1) 65535 }))) ∧
      exec (.frameDiscard .badCrc tag) s = .next (s.withPart
        (postReport (.linkError .crc tag) (dropped { e with crc := min (e.crc + 1) 65535 }))) ∧
      exec (.frameDiscard .badKind tag) s = .next (s.withPart
        (postReport (.linkError .kind tag) (dropped { e with kind := min (e.kind + 1) 65535 })))) ∧
    (p.lnk.transport ≠ .spi → p.lnk.parser.state ≠ .hunt →
      exec .gapExpiry s = .next (s.withPart (postReport (.linkError .gap (p.lnk.parser.kept[3]?))
        (dropped { e with gap := min (e.gap + 1) 65535 }))) ∧ exec .csRise s = .next (s.withPart p)) ∧
    (p.lnk.transport = .spi → p.lnk.parser.state ≠ .hunt →
      exec .csRise s = .next (s.withPart (postReport (.linkError .cut (p.lnk.parser.kept[3]?))
        (dropped { e with cut := min (e.cut + 1) 65535 }))) ∧ exec .gapExpiry s = .next (s.withPart p)) ∧
    (p.lnk.parser.state = .hunt → exec .gapExpiry s = .next (s.withPart p) ∧ exec .csRise s = .next (s.withPart p)) ∧
    (∀ (r : Report) (p : Part), postReport r p = if p.lnk.reports.length < 16 then
        { p with lnk := { p.lnk with reports := p.lnk.reports ++ [{ lost := p.lnk.lost, report := r }], lost := 0 } }
      else { p with lnk := { p.lnk with lost := min (p.lnk.lost + 1) 255 } })

/-- The bytes of a COMMAND frame (section 10.1, R155, R158, R172), taken one by one from HUNT under UART, have the effect of COMMAND_FRAME with the
frame's tag and payload; those of an ACK frame of three payload bytes, the effect of ACK, whatever its tag byte. A frame
start that is due is made at the first of the bytes. -/
def Obligations.FrameBytesHaveTheEffectOfTheFrame : Prop :=
  ∀ (s : State) (rate : Fin 4) (pins : ResetPins), s.part.lnk.transport = .uart rate → s.part.lnk.parser = Parser.hunting →
    (∀ (tag : Byte) (payload : List Byte), payload.length ≤ 1024 →
      Host.Core.run core (payload.length + 7)
          { s with pending := (frameBytes 0x10 tag payload).map (fun b => .inboundByte ⟨b, pins⟩) ++ s.pending } =
        exec (.commandFrame tag payload) (s.withPart (arbitrated s.part))) ∧
    (∀ (tag lane seq verdict : Byte),
      Host.Core.run core 10
          { s with pending := (frameBytes 0x11 tag [lane, seq, verdict]).map (fun b => .inboundByte ⟨b, pins⟩) ++ s.pending } =
        exec (.ack lane seq verdict) (s.withPart (arbitrated s.part)))

/-- Decoding and encoding agree (section 10.2, R173): the payload of a command, whatever its argument bytes, is read as that command, and it has the
length that the command table gives its code. -/
def Obligations.CommandPayloadsDecodeToTheirCommands : Prop :=
  ∀ c : Command, decodePayload (encodeCommand c) = .command c ∧
    commandLength (commandCode c) = some (encodeCommand c).length

/-! ### Invariants that every step keeps -/

/-- Every block stays on the free list or in one record's chain (R1). -/
def Obligations.EveryStepConservesTheBlocks : Prop :=
  ∀ s t : State, step s = .next t → BlocksConserved s.part → BlocksConserved t.part

/-- The history memory and the block memory keep their canonical form. The form is the model's (assumption 1). -/
def Obligations.EveryStepKeepsTheMemoriesCanonical : Prop :=
  ∀ s t : State, step s = .next t → MemoriesCanonical s.part → MemoriesCanonical t.part

/-- At most 32 records are live, and their IDs stay distinct and in 1..65,535 (R8, R11). -/
def Obligations.EveryStepKeepsRecordIdsDistinct : Prop :=
  ∀ s t : State, step s = .next t → RecordIdsSound s.part → RecordIdsSound t.part

/-- The ack timer of a lane runs only in AWAITING and its backoff timer only in BACKOFF (R111, R112). -/
def Obligations.EveryStepKeepsTimersInTheirStates : Prop :=
  ∀ s t : State, step s = .next t → LaneTimersSound s.part → LaneTimersSound t.part

/-- The queues of CAP and LNK stay within their places (R59, R160, R163, R164), the OK of a RESET FULL among them, and at most one command is in
execution, at the head of the intake queue (R161). -/
def Obligations.EveryStepKeepsQueuesWithinCapacity : Prop :=
  ∀ s t : State, step s = .next t → QueuesWithinCapacity s.part → QueuesWithinCapacity t.part

/-- The lock count of every channel stays the number of the windows that include it (R143). -/
def Obligations.EveryStepKeepsLocksCountingWindows : Prop :=
  ∀ s t : State, step s = .next t → LocksCountWindows s.part → LocksCountWindows t.part

/-- A plan that is neither RUNNING nor DRAINING keeps having no OPEN record and no pending job (R26), and an OPEN record of a plan its window. -/
def Obligations.EveryStepKeepsPlansAccounted : Prop :=
  ∀ s t : State, step s = .next t → PlansAccounted s.part → PlansAccounted t.part
end

