-- ==== Sys2Proof/Laws/State.lean ====
section
/-!
SUPPORT. What the small operations over the part leave alone, one lemma per operation and field, and what they write.
-/

namespace Sys2Proof.Machine

@[simp] theorem State.withPart_part (s : State) (p : Part) : (s.withPart p).part = p := rfl

@[simp] theorem State.withPart_pending (s : State) (p : Part) : (s.withPart p).pending = s.pending := rfl

/-- A step that changes the part answers a next state with the same steps waiting. -/
theorem onPart_eq (f : Part → Part) (s : State) : onPart f s = .next (s.withPart (f s.part)) := rfl

/-- An event is taken on the part in which the frame start that is due has been made (R165). -/
theorem onEvent_eq (f : Part → Part) (s : State) : onEvent f s = .next (s.withPart (f (arbitrated s.part))) := rfl

theorem onMeeting_eq (lanes : Fin 2 → Bool) (f : Part → Part) (s : State) :
    onMeeting lanes f s = .next (s.withPart (startAfter lanes s.part (f (partFound lanes s.part)))) := rfl

/-- What a next state of `onPart` is. -/
theorem onPart_next {f : Part → Part} {s t : State} (h : onPart f s = .next t) : t = s.withPart (f s.part) := by
  injection h with h
  exact h.symm

/-! ### modifyPlan -/

@[simp] theorem modifyPlan_smp (i : Fin 8) (f : Plan → Plan) (p : Part) : (modifyPlan i f p).smp = p.smp := rfl
@[simp] theorem modifyPlan_fill (i : Fin 8) (f : Plan → Plan) (p : Part) : (modifyPlan i f p).fill = p.fill := rfl
@[simp] theorem modifyPlan_history (i : Fin 8) (f : Plan → Plan) (p : Part) : (modifyPlan i f p).history = p.history := rfl
@[simp] theorem modifyPlan_channels (i : Fin 8) (f : Plan → Plan) (p : Part) : (modifyPlan i f p).channels = p.channels := rfl
@[simp] theorem modifyPlan_lines (i : Fin 8) (f : Plan → Plan) (p : Part) : (modifyPlan i f p).lines = p.lines := rfl
@[simp] theorem modifyPlan_detectors (i : Fin 8) (f : Plan → Plan) (p : Part) : (modifyPlan i f p).detectors = p.detectors := rfl
@[simp] theorem modifyPlan_trg (i : Fin 8) (f : Plan → Plan) (p : Part) : (modifyPlan i f p).trg = p.trg := rfl
@[simp] theorem modifyPlan_jobs (i : Fin 8) (f : Plan → Plan) (p : Part) : (modifyPlan i f p).jobs = p.jobs := rfl
@[simp] theorem modifyPlan_slots (i : Fin 8) (f : Plan → Plan) (p : Part) : (modifyPlan i f p).slots = p.slots := rfl
@[simp] theorem modifyPlan_blocks (i : Fin 8) (f : Plan → Plan) (p : Part) : (modifyPlan i f p).blocks = p.blocks := rfl
@[simp] theorem modifyPlan_freeList (i : Fin 8) (f : Plan → Plan) (p : Part) : (modifyPlan i f p).freeList = p.freeList := rfl
@[simp] theorem modifyPlan_records (i : Fin 8) (f : Plan → Plan) (p : Part) : (modifyPlan i f p).records = p.records := rfl
@[simp] theorem modifyPlan_nextId (i : Fin 8) (f : Plan → Plan) (p : Part) : (modifyPlan i f p).nextId = p.nextId := rfl
@[simp] theorem modifyPlan_lanes (i : Fin 8) (f : Plan → Plan) (p : Part) : (modifyPlan i f p).lanes = p.lanes := rfl
@[simp] theorem modifyPlan_lnk (i : Fin 8) (f : Plan → Plan) (p : Part) : (modifyPlan i f p).lnk = p.lnk := rfl

/-! ### modifyChannel -/

@[simp] theorem modifyChannel_smp (i : Fin 8) (f : Channel → Channel) (p : Part) : (modifyChannel i f p).smp = p.smp := rfl
@[simp] theorem modifyChannel_fill (i : Fin 8) (f : Channel → Channel) (p : Part) : (modifyChannel i f p).fill = p.fill := rfl
@[simp] theorem modifyChannel_history (i : Fin 8) (f : Channel → Channel) (p : Part) : (modifyChannel i f p).history = p.history := rfl
@[simp] theorem modifyChannel_lines (i : Fin 8) (f : Channel → Channel) (p : Part) : (modifyChannel i f p).lines = p.lines := rfl
@[simp] theorem modifyChannel_detectors (i : Fin 8) (f : Channel → Channel) (p : Part) : (modifyChannel i f p).detectors = p.detectors := rfl
@[simp] theorem modifyChannel_trg (i : Fin 8) (f : Channel → Channel) (p : Part) : (modifyChannel i f p).trg = p.trg := rfl
@[simp] theorem modifyChannel_plans (i : Fin 8) (f : Channel → Channel) (p : Part) : (modifyChannel i f p).plans = p.plans := rfl
@[simp] theorem modifyChannel_jobs (i : Fin 8) (f : Channel → Channel) (p : Part) : (modifyChannel i f p).jobs = p.jobs := rfl
@[simp] theorem modifyChannel_slots (i : Fin 8) (f : Channel → Channel) (p : Part) : (modifyChannel i f p).slots = p.slots := rfl
@[simp] theorem modifyChannel_blocks (i : Fin 8) (f : Channel → Channel) (p : Part) : (modifyChannel i f p).blocks = p.blocks := rfl
@[simp] theorem modifyChannel_freeList (i : Fin 8) (f : Channel → Channel) (p : Part) : (modifyChannel i f p).freeList = p.freeList := rfl
@[simp] theorem modifyChannel_records (i : Fin 8) (f : Channel → Channel) (p : Part) : (modifyChannel i f p).records = p.records := rfl
@[simp] theorem modifyChannel_nextId (i : Fin 8) (f : Channel → Channel) (p : Part) : (modifyChannel i f p).nextId = p.nextId := rfl
@[simp] theorem modifyChannel_lanes (i : Fin 8) (f : Channel → Channel) (p : Part) : (modifyChannel i f p).lanes = p.lanes := rfl
@[simp] theorem modifyChannel_lnk (i : Fin 8) (f : Channel → Channel) (p : Part) : (modifyChannel i f p).lnk = p.lnk := rfl

/-! ### modifyDetector -/

@[simp] theorem modifyDetector_smp (i : Fin 8) (f : Detector → Detector) (p : Part) : (modifyDetector i f p).smp = p.smp := rfl
@[simp] theorem modifyDetector_fill (i : Fin 8) (f : Detector → Detector) (p : Part) : (modifyDetector i f p).fill = p.fill := rfl
@[simp] theorem modifyDetector_history (i : Fin 8) (f : Detector → Detector) (p : Part) : (modifyDetector i f p).history = p.history := rfl
@[simp] theorem modifyDetector_channels (i : Fin 8) (f : Detector → Detector) (p : Part) : (modifyDetector i f p).channels = p.channels := rfl
@[simp] theorem modifyDetector_lines (i : Fin 8) (f : Detector → Detector) (p : Part) : (modifyDetector i f p).lines = p.lines := rfl
@[simp] theorem modifyDetector_trg (i : Fin 8) (f : Detector → Detector) (p : Part) : (modifyDetector i f p).trg = p.trg := rfl
@[simp] theorem modifyDetector_plans (i : Fin 8) (f : Detector → Detector) (p : Part) : (modifyDetector i f p).plans = p.plans := rfl
@[simp] theorem modifyDetector_jobs (i : Fin 8) (f : Detector → Detector) (p : Part) : (modifyDetector i f p).jobs = p.jobs := rfl
@[simp] theorem modifyDetector_slots (i : Fin 8) (f : Detector → Detector) (p : Part) : (modifyDetector i f p).slots = p.slots := rfl
@[simp] theorem modifyDetector_blocks (i : Fin 8) (f : Detector → Detector) (p : Part) : (modifyDetector i f p).blocks = p.blocks := rfl
@[simp] theorem modifyDetector_freeList (i : Fin 8) (f : Detector → Detector) (p : Part) : (modifyDetector i f p).freeList = p.freeList := rfl
@[simp] theorem modifyDetector_records (i : Fin 8) (f : Detector → Detector) (p : Part) : (modifyDetector i f p).records = p.records := rfl
@[simp] theorem modifyDetector_nextId (i : Fin 8) (f : Detector → Detector) (p : Part) : (modifyDetector i f p).nextId = p.nextId := rfl
@[simp] theorem modifyDetector_lanes (i : Fin 8) (f : Detector → Detector) (p : Part) : (modifyDetector i f p).lanes = p.lanes := rfl
@[simp] theorem modifyDetector_lnk (i : Fin 8) (f : Detector → Detector) (p : Part) : (modifyDetector i f p).lnk = p.lnk := rfl

/-! ### modifyLine -/

@[simp] theorem modifyLine_smp (i : Fin 4) (f : ExtLine → ExtLine) (p : Part) : (modifyLine i f p).smp = p.smp := rfl
@[simp] theorem modifyLine_fill (i : Fin 4) (f : ExtLine → ExtLine) (p : Part) : (modifyLine i f p).fill = p.fill := rfl
@[simp] theorem modifyLine_history (i : Fin 4) (f : ExtLine → ExtLine) (p : Part) : (modifyLine i f p).history = p.history := rfl
@[simp] theorem modifyLine_channels (i : Fin 4) (f : ExtLine → ExtLine) (p : Part) : (modifyLine i f p).channels = p.channels := rfl
@[simp] theorem modifyLine_detectors (i : Fin 4) (f : ExtLine → ExtLine) (p : Part) : (modifyLine i f p).detectors = p.detectors := rfl
@[simp] theorem modifyLine_trg (i : Fin 4) (f : ExtLine → ExtLine) (p : Part) : (modifyLine i f p).trg = p.trg := rfl
@[simp] theorem modifyLine_plans (i : Fin 4) (f : ExtLine → ExtLine) (p : Part) : (modifyLine i f p).plans = p.plans := rfl
@[simp] theorem modifyLine_jobs (i : Fin 4) (f : ExtLine → ExtLine) (p : Part) : (modifyLine i f p).jobs = p.jobs := rfl
@[simp] theorem modifyLine_slots (i : Fin 4) (f : ExtLine → ExtLine) (p : Part) : (modifyLine i f p).slots = p.slots := rfl
@[simp] theorem modifyLine_blocks (i : Fin 4) (f : ExtLine → ExtLine) (p : Part) : (modifyLine i f p).blocks = p.blocks := rfl
@[simp] theorem modifyLine_freeList (i : Fin 4) (f : ExtLine → ExtLine) (p : Part) : (modifyLine i f p).freeList = p.freeList := rfl
@[simp] theorem modifyLine_records (i : Fin 4) (f : ExtLine → ExtLine) (p : Part) : (modifyLine i f p).records = p.records := rfl
@[simp] theorem modifyLine_nextId (i : Fin 4) (f : ExtLine → ExtLine) (p : Part) : (modifyLine i f p).nextId = p.nextId := rfl
@[simp] theorem modifyLine_lanes (i : Fin 4) (f : ExtLine → ExtLine) (p : Part) : (modifyLine i f p).lanes = p.lanes := rfl
@[simp] theorem modifyLine_lnk (i : Fin 4) (f : ExtLine → ExtLine) (p : Part) : (modifyLine i f p).lnk = p.lnk := rfl

/-! ### modifyLane -/

@[simp] theorem modifyLane_smp (i : Fin 2) (f : Lane → Lane) (p : Part) : (modifyLane i f p).smp = p.smp := rfl
@[simp] theorem modifyLane_fill (i : Fin 2) (f : Lane → Lane) (p : Part) : (modifyLane i f p).fill = p.fill := rfl
@[simp] theorem modifyLane_history (i : Fin 2) (f : Lane → Lane) (p : Part) : (modifyLane i f p).history = p.history := rfl
@[simp] theorem modifyLane_channels (i : Fin 2) (f : Lane → Lane) (p : Part) : (modifyLane i f p).channels = p.channels := rfl
@[simp] theorem modifyLane_lines (i : Fin 2) (f : Lane → Lane) (p : Part) : (modifyLane i f p).lines = p.lines := rfl
@[simp] theorem modifyLane_detectors (i : Fin 2) (f : Lane → Lane) (p : Part) : (modifyLane i f p).detectors = p.detectors := rfl
@[simp] theorem modifyLane_trg (i : Fin 2) (f : Lane → Lane) (p : Part) : (modifyLane i f p).trg = p.trg := rfl
@[simp] theorem modifyLane_plans (i : Fin 2) (f : Lane → Lane) (p : Part) : (modifyLane i f p).plans = p.plans := rfl
@[simp] theorem modifyLane_jobs (i : Fin 2) (f : Lane → Lane) (p : Part) : (modifyLane i f p).jobs = p.jobs := rfl
@[simp] theorem modifyLane_slots (i : Fin 2) (f : Lane → Lane) (p : Part) : (modifyLane i f p).slots = p.slots := rfl
@[simp] theorem modifyLane_blocks (i : Fin 2) (f : Lane → Lane) (p : Part) : (modifyLane i f p).blocks = p.blocks := rfl
@[simp] theorem modifyLane_freeList (i : Fin 2) (f : Lane → Lane) (p : Part) : (modifyLane i f p).freeList = p.freeList := rfl
@[simp] theorem modifyLane_records (i : Fin 2) (f : Lane → Lane) (p : Part) : (modifyLane i f p).records = p.records := rfl
@[simp] theorem modifyLane_nextId (i : Fin 2) (f : Lane → Lane) (p : Part) : (modifyLane i f p).nextId = p.nextId := rfl
@[simp] theorem modifyLane_lnk (i : Fin 2) (f : Lane → Lane) (p : Part) : (modifyLane i f p).lnk = p.lnk := rfl

/-! ### setSlot -/

@[simp] theorem setSlot_smp (w : Fin 4) (v : Option Window) (p : Part) : (setSlot w v p).smp = p.smp := rfl
@[simp] theorem setSlot_fill (w : Fin 4) (v : Option Window) (p : Part) : (setSlot w v p).fill = p.fill := rfl
@[simp] theorem setSlot_history (w : Fin 4) (v : Option Window) (p : Part) : (setSlot w v p).history = p.history := rfl
@[simp] theorem setSlot_channels (w : Fin 4) (v : Option Window) (p : Part) : (setSlot w v p).channels = p.channels := rfl
@[simp] theorem setSlot_lines (w : Fin 4) (v : Option Window) (p : Part) : (setSlot w v p).lines = p.lines := rfl
@[simp] theorem setSlot_detectors (w : Fin 4) (v : Option Window) (p : Part) : (setSlot w v p).detectors = p.detectors := rfl
@[simp] theorem setSlot_trg (w : Fin 4) (v : Option Window) (p : Part) : (setSlot w v p).trg = p.trg := rfl
@[simp] theorem setSlot_plans (w : Fin 4) (v : Option Window) (p : Part) : (setSlot w v p).plans = p.plans := rfl
@[simp] theorem setSlot_jobs (w : Fin 4) (v : Option Window) (p : Part) : (setSlot w v p).jobs = p.jobs := rfl
@[simp] theorem setSlot_blocks (w : Fin 4) (v : Option Window) (p : Part) : (setSlot w v p).blocks = p.blocks := rfl
@[simp] theorem setSlot_freeList (w : Fin 4) (v : Option Window) (p : Part) : (setSlot w v p).freeList = p.freeList := rfl
@[simp] theorem setSlot_records (w : Fin 4) (v : Option Window) (p : Part) : (setSlot w v p).records = p.records := rfl
@[simp] theorem setSlot_nextId (w : Fin 4) (v : Option Window) (p : Part) : (setSlot w v p).nextId = p.nextId := rfl
@[simp] theorem setSlot_lanes (w : Fin 4) (v : Option Window) (p : Part) : (setSlot w v p).lanes = p.lanes := rfl
@[simp] theorem setSlot_lnk (w : Fin 4) (v : Option Window) (p : Part) : (setSlot w v p).lnk = p.lnk := rfl

/-! ### modifyRecord -/

@[simp] theorem modifyRecord_smp (id : Nat) (f : Record → Record) (p : Part) : (modifyRecord id f p).smp = p.smp := rfl
@[simp] theorem modifyRecord_fill (id : Nat) (f : Record → Record) (p : Part) : (modifyRecord id f p).fill = p.fill := rfl
@[simp] theorem modifyRecord_history (id : Nat) (f : Record → Record) (p : Part) : (modifyRecord id f p).history = p.history := rfl
@[simp] theorem modifyRecord_channels (id : Nat) (f : Record → Record) (p : Part) : (modifyRecord id f p).channels = p.channels := rfl
@[simp] theorem modifyRecord_lines (id : Nat) (f : Record → Record) (p : Part) : (modifyRecord id f p).lines = p.lines := rfl
@[simp] theorem modifyRecord_detectors (id : Nat) (f : Record → Record) (p : Part) : (modifyRecord id f p).detectors = p.detectors := rfl
@[simp] theorem modifyRecord_trg (id : Nat) (f : Record → Record) (p : Part) : (modifyRecord id f p).trg = p.trg := rfl
@[simp] theorem modifyRecord_plans (id : Nat) (f : Record → Record) (p : Part) : (modifyRecord id f p).plans = p.plans := rfl
@[simp] theorem modifyRecord_jobs (id : Nat) (f : Record → Record) (p : Part) : (modifyRecord id f p).jobs = p.jobs := rfl
@[simp] theorem modifyRecord_slots (id : Nat) (f : Record → Record) (p : Part) : (modifyRecord id f p).slots = p.slots := rfl
@[simp] theorem modifyRecord_blocks (id : Nat) (f : Record → Record) (p : Part) : (modifyRecord id f p).blocks = p.blocks := rfl
@[simp] theorem modifyRecord_freeList (id : Nat) (f : Record → Record) (p : Part) : (modifyRecord id f p).freeList = p.freeList := rfl
@[simp] theorem modifyRecord_nextId (id : Nat) (f : Record → Record) (p : Part) : (modifyRecord id f p).nextId = p.nextId := rfl
@[simp] theorem modifyRecord_lanes (id : Nat) (f : Record → Record) (p : Part) : (modifyRecord id f p).lanes = p.lanes := rfl
@[simp] theorem modifyRecord_lnk (id : Nat) (f : Record → Record) (p : Part) : (modifyRecord id f p).lnk = p.lnk := rfl

/-! ### detectorUnknown -/

@[simp] theorem detectorUnknown_smp (i : Fin 8) (p : Part) : (detectorUnknown i p).smp = p.smp := rfl
@[simp] theorem detectorUnknown_fill (i : Fin 8) (p : Part) : (detectorUnknown i p).fill = p.fill := rfl
@[simp] theorem detectorUnknown_history (i : Fin 8) (p : Part) : (detectorUnknown i p).history = p.history := rfl
@[simp] theorem detectorUnknown_channels (i : Fin 8) (p : Part) : (detectorUnknown i p).channels = p.channels := rfl
@[simp] theorem detectorUnknown_lines (i : Fin 8) (p : Part) : (detectorUnknown i p).lines = p.lines := rfl
@[simp] theorem detectorUnknown_trg (i : Fin 8) (p : Part) : (detectorUnknown i p).trg = p.trg := rfl
@[simp] theorem detectorUnknown_plans (i : Fin 8) (p : Part) : (detectorUnknown i p).plans = p.plans := rfl
@[simp] theorem detectorUnknown_jobs (i : Fin 8) (p : Part) : (detectorUnknown i p).jobs = p.jobs := rfl
@[simp] theorem detectorUnknown_slots (i : Fin 8) (p : Part) : (detectorUnknown i p).slots = p.slots := rfl
@[simp] theorem detectorUnknown_blocks (i : Fin 8) (p : Part) : (detectorUnknown i p).blocks = p.blocks := rfl
@[simp] theorem detectorUnknown_freeList (i : Fin 8) (p : Part) : (detectorUnknown i p).freeList = p.freeList := rfl
@[simp] theorem detectorUnknown_records (i : Fin 8) (p : Part) : (detectorUnknown i p).records = p.records := rfl
@[simp] theorem detectorUnknown_nextId (i : Fin 8) (p : Part) : (detectorUnknown i p).nextId = p.nextId := rfl
@[simp] theorem detectorUnknown_lanes (i : Fin 8) (p : Part) : (detectorUnknown i p).lanes = p.lanes := rfl
@[simp] theorem detectorUnknown_lnk (i : Fin 8) (p : Part) : (detectorUnknown i p).lnk = p.lnk := rfl

/-! ### queueResponse -/

@[simp] theorem queueResponse_smp (r : Response) (p : Part) : (queueResponse r p).smp = p.smp := rfl
@[simp] theorem queueResponse_fill (r : Response) (p : Part) : (queueResponse r p).fill = p.fill := rfl
@[simp] theorem queueResponse_history (r : Response) (p : Part) : (queueResponse r p).history = p.history := rfl
@[simp] theorem queueResponse_channels (r : Response) (p : Part) : (queueResponse r p).channels = p.channels := rfl
@[simp] theorem queueResponse_lines (r : Response) (p : Part) : (queueResponse r p).lines = p.lines := rfl
@[simp] theorem queueResponse_detectors (r : Response) (p : Part) : (queueResponse r p).detectors = p.detectors := rfl
@[simp] theorem queueResponse_trg (r : Response) (p : Part) : (queueResponse r p).trg = p.trg := rfl
@[simp] theorem queueResponse_plans (r : Response) (p : Part) : (queueResponse r p).plans = p.plans := rfl
@[simp] theorem queueResponse_jobs (r : Response) (p : Part) : (queueResponse r p).jobs = p.jobs := rfl
@[simp] theorem queueResponse_slots (r : Response) (p : Part) : (queueResponse r p).slots = p.slots := rfl
@[simp] theorem queueResponse_blocks (r : Response) (p : Part) : (queueResponse r p).blocks = p.blocks := rfl
@[simp] theorem queueResponse_freeList (r : Response) (p : Part) : (queueResponse r p).freeList = p.freeList := rfl
@[simp] theorem queueResponse_records (r : Response) (p : Part) : (queueResponse r p).records = p.records := rfl
@[simp] theorem queueResponse_nextId (r : Response) (p : Part) : (queueResponse r p).nextId = p.nextId := rfl
@[simp] theorem queueResponse_lanes (r : Response) (p : Part) : (queueResponse r p).lanes = p.lanes := rfl
@[simp] theorem queueResponse_lnk_transport (r : Response) (p : Part) : (queueResponse r p).lnk.transport = p.lnk.transport := rfl
@[simp] theorem queueResponse_lnk_parser (r : Response) (p : Part) : (queueResponse r p).lnk.parser = p.lnk.parser := rfl
@[simp] theorem queueResponse_lnk_intake (r : Response) (p : Part) : (queueResponse r p).lnk.intake = p.lnk.intake := rfl
@[simp] theorem queueResponse_lnk_finishing (r : Response) (p : Part) : (queueResponse r p).lnk.finishing = p.lnk.finishing := rfl
@[simp] theorem queueResponse_lnk_resetting (r : Response) (p : Part) : (queueResponse r p).lnk.resetting = p.lnk.resetting := rfl
@[simp] theorem queueResponse_lnk_reports (r : Response) (p : Part) : (queueResponse r p).lnk.reports = p.lnk.reports := rfl
@[simp] theorem queueResponse_lnk_lost (r : Response) (p : Part) : (queueResponse r p).lnk.lost = p.lnk.lost := rfl
@[simp] theorem queueResponse_lnk_turn (r : Response) (p : Part) : (queueResponse r p).lnk.turn = p.lnk.turn := rfl
@[simp] theorem queueResponse_lnk_inFlight (r : Response) (p : Part) : (queueResponse r p).lnk.inFlight = p.lnk.inFlight := rfl
@[simp] theorem queueResponse_lnk_sdo (r : Response) (p : Part) : (queueResponse r p).lnk.sdo = p.lnk.sdo := rfl
@[simp] theorem queueResponse_lnk_errors (r : Response) (p : Part) : (queueResponse r p).lnk.errors = p.lnk.errors := rfl

/-! ### parserToHunt -/

@[simp] theorem parserToHunt_smp (p : Part) : (parserToHunt p).smp = p.smp := rfl
@[simp] theorem parserToHunt_fill (p : Part) : (parserToHunt p).fill = p.fill := rfl
@[simp] theorem parserToHunt_history (p : Part) : (parserToHunt p).history = p.history := rfl
@[simp] theorem parserToHunt_channels (p : Part) : (parserToHunt p).channels = p.channels := rfl
@[simp] theorem parserToHunt_lines (p : Part) : (parserToHunt p).lines = p.lines := rfl
@[simp] theorem parserToHunt_detectors (p : Part) : (parserToHunt p).detectors = p.detectors := rfl
@[simp] theorem parserToHunt_trg (p : Part) : (parserToHunt p).trg = p.trg := rfl
@[simp] theorem parserToHunt_plans (p : Part) : (parserToHunt p).plans = p.plans := rfl
@[simp] theorem parserToHunt_jobs (p : Part) : (parserToHunt p).jobs = p.jobs := rfl
@[simp] theorem parserToHunt_slots (p : Part) : (parserToHunt p).slots = p.slots := rfl
@[simp] theorem parserToHunt_blocks (p : Part) : (parserToHunt p).blocks = p.blocks := rfl
@[simp] theorem parserToHunt_freeList (p : Part) : (parserToHunt p).freeList = p.freeList := rfl
@[simp] theorem parserToHunt_records (p : Part) : (parserToHunt p).records = p.records := rfl
@[simp] theorem parserToHunt_nextId (p : Part) : (parserToHunt p).nextId = p.nextId := rfl
@[simp] theorem parserToHunt_lanes (p : Part) : (parserToHunt p).lanes = p.lanes := rfl
@[simp] theorem parserToHunt_lnk_transport (p : Part) : (parserToHunt p).lnk.transport = p.lnk.transport := rfl
@[simp] theorem parserToHunt_lnk_intake (p : Part) : (parserToHunt p).lnk.intake = p.lnk.intake := rfl
@[simp] theorem parserToHunt_lnk_finishing (p : Part) : (parserToHunt p).lnk.finishing = p.lnk.finishing := rfl
@[simp] theorem parserToHunt_lnk_resetting (p : Part) : (parserToHunt p).lnk.resetting = p.lnk.resetting := rfl
@[simp] theorem parserToHunt_lnk_responses (p : Part) : (parserToHunt p).lnk.responses = p.lnk.responses := rfl
@[simp] theorem parserToHunt_lnk_reports (p : Part) : (parserToHunt p).lnk.reports = p.lnk.reports := rfl
@[simp] theorem parserToHunt_lnk_lost (p : Part) : (parserToHunt p).lnk.lost = p.lnk.lost := rfl
@[simp] theorem parserToHunt_lnk_turn (p : Part) : (parserToHunt p).lnk.turn = p.lnk.turn := rfl
@[simp] theorem parserToHunt_lnk_inFlight (p : Part) : (parserToHunt p).lnk.inFlight = p.lnk.inFlight := rfl
@[simp] theorem parserToHunt_lnk_sdo (p : Part) : (parserToHunt p).lnk.sdo = p.lnk.sdo := rfl
@[simp] theorem parserToHunt_lnk_errors (p : Part) : (parserToHunt p).lnk.errors = p.lnk.errors := rfl

/-! ### setParser -/

@[simp] theorem setParser_smp (x : Parser) (p : Part) : (setParser x p).smp = p.smp := rfl
@[simp] theorem setParser_fill (x : Parser) (p : Part) : (setParser x p).fill = p.fill := rfl
@[simp] theorem setParser_history (x : Parser) (p : Part) : (setParser x p).history = p.history := rfl
@[simp] theorem setParser_channels (x : Parser) (p : Part) : (setParser x p).channels = p.channels := rfl
@[simp] theorem setParser_lines (x : Parser) (p : Part) : (setParser x p).lines = p.lines := rfl
@[simp] theorem setParser_detectors (x : Parser) (p : Part) : (setParser x p).detectors = p.detectors := rfl
@[simp] theorem setParser_trg (x : Parser) (p : Part) : (setParser x p).trg = p.trg := rfl
@[simp] theorem setParser_plans (x : Parser) (p : Part) : (setParser x p).plans = p.plans := rfl
@[simp] theorem setParser_jobs (x : Parser) (p : Part) : (setParser x p).jobs = p.jobs := rfl
@[simp] theorem setParser_slots (x : Parser) (p : Part) : (setParser x p).slots = p.slots := rfl
@[simp] theorem setParser_blocks (x : Parser) (p : Part) : (setParser x p).blocks = p.blocks := rfl
@[simp] theorem setParser_freeList (x : Parser) (p : Part) : (setParser x p).freeList = p.freeList := rfl
@[simp] theorem setParser_records (x : Parser) (p : Part) : (setParser x p).records = p.records := rfl
@[simp] theorem setParser_nextId (x : Parser) (p : Part) : (setParser x p).nextId = p.nextId := rfl
@[simp] theorem setParser_lanes (x : Parser) (p : Part) : (setParser x p).lanes = p.lanes := rfl
@[simp] theorem setParser_lnk_transport (x : Parser) (p : Part) : (setParser x p).lnk.transport = p.lnk.transport := rfl
@[simp] theorem setParser_lnk_intake (x : Parser) (p : Part) : (setParser x p).lnk.intake = p.lnk.intake := rfl
@[simp] theorem setParser_lnk_finishing (x : Parser) (p : Part) : (setParser x p).lnk.finishing = p.lnk.finishing := rfl
@[simp] theorem setParser_lnk_resetting (x : Parser) (p : Part) : (setParser x p).lnk.resetting = p.lnk.resetting := rfl
@[simp] theorem setParser_lnk_responses (x : Parser) (p : Part) : (setParser x p).lnk.responses = p.lnk.responses := rfl
@[simp] theorem setParser_lnk_reports (x : Parser) (p : Part) : (setParser x p).lnk.reports = p.lnk.reports := rfl
@[simp] theorem setParser_lnk_lost (x : Parser) (p : Part) : (setParser x p).lnk.lost = p.lnk.lost := rfl
@[simp] theorem setParser_lnk_turn (x : Parser) (p : Part) : (setParser x p).lnk.turn = p.lnk.turn := rfl
@[simp] theorem setParser_lnk_inFlight (x : Parser) (p : Part) : (setParser x p).lnk.inFlight = p.lnk.inFlight := rfl
@[simp] theorem setParser_lnk_sdo (x : Parser) (p : Part) : (setParser x p).lnk.sdo = p.lnk.sdo := rfl
@[simp] theorem setParser_lnk_errors (x : Parser) (p : Part) : (setParser x p).lnk.errors = p.lnk.errors := rfl

/-! ### putInFlight -/

@[simp] theorem putInFlight_smp (c : Cargo) (bytes : List Byte) (p : Part) : (putInFlight c bytes p).smp = p.smp := rfl
@[simp] theorem putInFlight_fill (c : Cargo) (bytes : List Byte) (p : Part) : (putInFlight c bytes p).fill = p.fill := rfl
@[simp] theorem putInFlight_history (c : Cargo) (bytes : List Byte) (p : Part) : (putInFlight c bytes p).history = p.history := rfl
@[simp] theorem putInFlight_channels (c : Cargo) (bytes : List Byte) (p : Part) : (putInFlight c bytes p).channels = p.channels := rfl
@[simp] theorem putInFlight_lines (c : Cargo) (bytes : List Byte) (p : Part) : (putInFlight c bytes p).lines = p.lines := rfl
@[simp] theorem putInFlight_detectors (c : Cargo) (bytes : List Byte) (p : Part) : (putInFlight c bytes p).detectors = p.detectors := rfl
@[simp] theorem putInFlight_trg (c : Cargo) (bytes : List Byte) (p : Part) : (putInFlight c bytes p).trg = p.trg := rfl
@[simp] theorem putInFlight_plans (c : Cargo) (bytes : List Byte) (p : Part) : (putInFlight c bytes p).plans = p.plans := rfl
@[simp] theorem putInFlight_jobs (c : Cargo) (bytes : List Byte) (p : Part) : (putInFlight c bytes p).jobs = p.jobs := rfl
@[simp] theorem putInFlight_slots (c : Cargo) (bytes : List Byte) (p : Part) : (putInFlight c bytes p).slots = p.slots := rfl
@[simp] theorem putInFlight_blocks (c : Cargo) (bytes : List Byte) (p : Part) : (putInFlight c bytes p).blocks = p.blocks := rfl
@[simp] theorem putInFlight_freeList (c : Cargo) (bytes : List Byte) (p : Part) : (putInFlight c bytes p).freeList = p.freeList := rfl
@[simp] theorem putInFlight_records (c : Cargo) (bytes : List Byte) (p : Part) : (putInFlight c bytes p).records = p.records := rfl
@[simp] theorem putInFlight_nextId (c : Cargo) (bytes : List Byte) (p : Part) : (putInFlight c bytes p).nextId = p.nextId := rfl
@[simp] theorem putInFlight_lanes (c : Cargo) (bytes : List Byte) (p : Part) : (putInFlight c bytes p).lanes = p.lanes := rfl
@[simp] theorem putInFlight_lnk_transport (c : Cargo) (bytes : List Byte) (p : Part) : (putInFlight c bytes p).lnk.transport = p.lnk.transport := rfl
@[simp] theorem putInFlight_lnk_parser (c : Cargo) (bytes : List Byte) (p : Part) : (putInFlight c bytes p).lnk.parser = p.lnk.parser := rfl
@[simp] theorem putInFlight_lnk_intake (c : Cargo) (bytes : List Byte) (p : Part) : (putInFlight c bytes p).lnk.intake = p.lnk.intake := rfl
@[simp] theorem putInFlight_lnk_finishing (c : Cargo) (bytes : List Byte) (p : Part) : (putInFlight c bytes p).lnk.finishing = p.lnk.finishing := rfl
@[simp] theorem putInFlight_lnk_resetting (c : Cargo) (bytes : List Byte) (p : Part) : (putInFlight c bytes p).lnk.resetting = p.lnk.resetting := rfl
@[simp] theorem putInFlight_lnk_responses (c : Cargo) (bytes : List Byte) (p : Part) : (putInFlight c bytes p).lnk.responses = p.lnk.responses := rfl
@[simp] theorem putInFlight_lnk_reports (c : Cargo) (bytes : List Byte) (p : Part) : (putInFlight c bytes p).lnk.reports = p.lnk.reports := rfl
@[simp] theorem putInFlight_lnk_lost (c : Cargo) (bytes : List Byte) (p : Part) : (putInFlight c bytes p).lnk.lost = p.lnk.lost := rfl
@[simp] theorem putInFlight_lnk_turn (c : Cargo) (bytes : List Byte) (p : Part) : (putInFlight c bytes p).lnk.turn = p.lnk.turn := rfl
@[simp] theorem putInFlight_lnk_sdo (c : Cargo) (bytes : List Byte) (p : Part) : (putInFlight c bytes p).lnk.sdo = p.lnk.sdo := rfl
@[simp] theorem putInFlight_lnk_errors (c : Cargo) (bytes : List Byte) (p : Part) : (putInFlight c bytes p).lnk.errors = p.lnk.errors := rfl

/-! ### exchangeByte -/

@[simp] theorem exchangeByte_smp (p : Part) : (exchangeByte p).smp = p.smp := rfl
@[simp] theorem exchangeByte_fill (p : Part) : (exchangeByte p).fill = p.fill := rfl
@[simp] theorem exchangeByte_history (p : Part) : (exchangeByte p).history = p.history := rfl
@[simp] theorem exchangeByte_channels (p : Part) : (exchangeByte p).channels = p.channels := rfl
@[simp] theorem exchangeByte_lines (p : Part) : (exchangeByte p).lines = p.lines := rfl
@[simp] theorem exchangeByte_detectors (p : Part) : (exchangeByte p).detectors = p.detectors := rfl
@[simp] theorem exchangeByte_trg (p : Part) : (exchangeByte p).trg = p.trg := rfl
@[simp] theorem exchangeByte_plans (p : Part) : (exchangeByte p).plans = p.plans := rfl
@[simp] theorem exchangeByte_jobs (p : Part) : (exchangeByte p).jobs = p.jobs := rfl
@[simp] theorem exchangeByte_slots (p : Part) : (exchangeByte p).slots = p.slots := rfl
@[simp] theorem exchangeByte_blocks (p : Part) : (exchangeByte p).blocks = p.blocks := rfl
@[simp] theorem exchangeByte_freeList (p : Part) : (exchangeByte p).freeList = p.freeList := rfl
@[simp] theorem exchangeByte_records (p : Part) : (exchangeByte p).records = p.records := rfl
@[simp] theorem exchangeByte_nextId (p : Part) : (exchangeByte p).nextId = p.nextId := rfl
@[simp] theorem exchangeByte_lanes (p : Part) : (exchangeByte p).lanes = p.lanes := rfl
@[simp] theorem exchangeByte_lnk_transport (p : Part) : (exchangeByte p).lnk.transport = p.lnk.transport := rfl
@[simp] theorem exchangeByte_lnk_parser (p : Part) : (exchangeByte p).lnk.parser = p.lnk.parser := rfl
@[simp] theorem exchangeByte_lnk_intake (p : Part) : (exchangeByte p).lnk.intake = p.lnk.intake := rfl
@[simp] theorem exchangeByte_lnk_finishing (p : Part) : (exchangeByte p).lnk.finishing = p.lnk.finishing := rfl
@[simp] theorem exchangeByte_lnk_resetting (p : Part) : (exchangeByte p).lnk.resetting = p.lnk.resetting := rfl
@[simp] theorem exchangeByte_lnk_responses (p : Part) : (exchangeByte p).lnk.responses = p.lnk.responses := rfl
@[simp] theorem exchangeByte_lnk_reports (p : Part) : (exchangeByte p).lnk.reports = p.lnk.reports := rfl
@[simp] theorem exchangeByte_lnk_lost (p : Part) : (exchangeByte p).lnk.lost = p.lnk.lost := rfl
@[simp] theorem exchangeByte_lnk_turn (p : Part) : (exchangeByte p).lnk.turn = p.lnk.turn := rfl
@[simp] theorem exchangeByte_lnk_errors (p : Part) : (exchangeByte p).lnk.errors = p.lnk.errors := rfl

/-- What modifyPlan writes: entry `i` becomes `f` of it, every other entry stays. -/
theorem modifyPlan_get (i j : Fin 8) (f : Plan → Plan) (p : Part) :
    (modifyPlan i f p).plans[j] = if i = j then f p.plans[i] else p.plans[j] := by
  simp only [modifyPlan, Fin.getElem_fin, Vector.getElem_set, Fin.ext_iff]

@[simp] theorem modifyPlan_get_self (i : Fin 8) (f : Plan → Plan) (p : Part) : (modifyPlan i f p).plans[i] = f p.plans[i] := by
  rw [modifyPlan_get, if_pos rfl]

theorem modifyPlan_get_other {i j : Fin 8} (h : i ≠ j) (f : Plan → Plan) (p : Part) : (modifyPlan i f p).plans[j] = p.plans[j] := by
  rw [modifyPlan_get, if_neg h]

/-- What modifyChannel writes: entry `i` becomes `f` of it, every other entry stays. -/
theorem modifyChannel_get (i j : Fin 8) (f : Channel → Channel) (p : Part) :
    (modifyChannel i f p).channels[j] = if i = j then f p.channels[i] else p.channels[j] := by
  simp only [modifyChannel, Fin.getElem_fin, Vector.getElem_set, Fin.ext_iff]

@[simp] theorem modifyChannel_get_self (i : Fin 8) (f : Channel → Channel) (p : Part) : (modifyChannel i f p).channels[i] = f p.channels[i] := by
  rw [modifyChannel_get, if_pos rfl]

theorem modifyChannel_get_other {i j : Fin 8} (h : i ≠ j) (f : Channel → Channel) (p : Part) : (modifyChannel i f p).channels[j] = p.channels[j] := by
  rw [modifyChannel_get, if_neg h]

/-- What modifyDetector writes: entry `i` becomes `f` of it, every other entry stays. -/
theorem modifyDetector_get (i j : Fin 8) (f : Detector → Detector) (p : Part) :
    (modifyDetector i f p).detectors[j] = if i = j then f p.detectors[i] else p.detectors[j] := by
  simp only [modifyDetector, Fin.getElem_fin, Vector.getElem_set, Fin.ext_iff]

@[simp] theorem modifyDetector_get_self (i : Fin 8) (f : Detector → Detector) (p : Part) : (modifyDetector i f p).detectors[i] = f p.detectors[i] := by
  rw [modifyDetector_get, if_pos rfl]

theorem modifyDetector_get_other {i j : Fin 8} (h : i ≠ j) (f : Detector → Detector) (p : Part) : (modifyDetector i f p).detectors[j] = p.detectors[j] := by
  rw [modifyDetector_get, if_neg h]

/-- What modifyLine writes: entry `i` becomes `f` of it, every other entry stays. -/
theorem modifyLine_get (i j : Fin 4) (f : ExtLine → ExtLine) (p : Part) :
    (modifyLine i f p).lines[j] = if i = j then f p.lines[i] else p.lines[j] := by
  simp only [modifyLine, Fin.getElem_fin, Vector.getElem_set, Fin.ext_iff]

@[simp] theorem modifyLine_get_self (i : Fin 4) (f : ExtLine → ExtLine) (p : Part) : (modifyLine i f p).lines[i] = f p.lines[i] := by
  rw [modifyLine_get, if_pos rfl]

theorem modifyLine_get_other {i j : Fin 4} (h : i ≠ j) (f : ExtLine → ExtLine) (p : Part) : (modifyLine i f p).lines[j] = p.lines[j] := by
  rw [modifyLine_get, if_neg h]

/-- What modifyLane writes: entry `i` becomes `f` of it, every other entry stays. -/
theorem modifyLane_get (i j : Fin 2) (f : Lane → Lane) (p : Part) :
    (modifyLane i f p).lanes[j] = if i = j then f p.lanes[i] else p.lanes[j] := by
  simp only [modifyLane, Fin.getElem_fin, Vector.getElem_set, Fin.ext_iff]

@[simp] theorem modifyLane_get_self (i : Fin 2) (f : Lane → Lane) (p : Part) : (modifyLane i f p).lanes[i] = f p.lanes[i] := by
  rw [modifyLane_get, if_pos rfl]

theorem modifyLane_get_other {i j : Fin 2} (h : i ≠ j) (f : Lane → Lane) (p : Part) : (modifyLane i f p).lanes[j] = p.lanes[j] := by
  rw [modifyLane_get, if_neg h]

/-- What setSlot writes. -/
theorem setSlot_get (w v : Fin 4) (x : Option Window) (p : Part) :
    (setSlot w x p).slots[v] = if w = v then x else p.slots[v] := by
  simp only [setSlot, Fin.getElem_fin, Vector.getElem_set, Fin.ext_iff]

@[simp] theorem setSlot_get_self (w : Fin 4) (x : Option Window) (p : Part) : (setSlot w x p).slots[w] = x := by
  rw [setSlot_get, if_pos rfl]

theorem setSlot_get_other {w v : Fin 4} (h : w ≠ v) (x : Option Window) (p : Part) : (setSlot w x p).slots[v] = p.slots[v] := by
  rw [setSlot_get, if_neg h]

@[simp] theorem queueResponse_responses (r : Response) (p : Part) :
    (queueResponse r p).lnk.responses = p.lnk.responses ++ [r] := rfl

@[simp] theorem parserToHunt_parser (p : Part) : (parserToHunt p).lnk.parser = Parser.hunting := rfl

@[simp] theorem setParser_parser (x : Parser) (p : Part) : (setParser x p).lnk.parser = x := rfl

@[simp] theorem putInFlight_inFlight (c : Cargo) (bytes : List Byte) (p : Part) :
    (putInFlight c bytes p).lnk.inFlight = some { cargo := c, bytes := bytes, exchanged := 0 } := rfl

/-! ### postReport -/

@[simp] theorem postReport_smp (r : Report) (p : Part) : (postReport r p).smp = p.smp := by
  unfold postReport; split <;> rfl
@[simp] theorem postReport_fill (r : Report) (p : Part) : (postReport r p).fill = p.fill := by
  unfold postReport; split <;> rfl
@[simp] theorem postReport_history (r : Report) (p : Part) : (postReport r p).history = p.history := by
  unfold postReport; split <;> rfl
@[simp] theorem postReport_channels (r : Report) (p : Part) : (postReport r p).channels = p.channels := by
  unfold postReport; split <;> rfl
@[simp] theorem postReport_lines (r : Report) (p : Part) : (postReport r p).lines = p.lines := by
  unfold postReport; split <;> rfl
@[simp] theorem postReport_detectors (r : Report) (p : Part) : (postReport r p).detectors = p.detectors := by
  unfold postReport; split <;> rfl
@[simp] theorem postReport_trg (r : Report) (p : Part) : (postReport r p).trg = p.trg := by
  unfold postReport; split <;> rfl
@[simp] theorem postReport_plans (r : Report) (p : Part) : (postReport r p).plans = p.plans := by
  unfold postReport; split <;> rfl
@[simp] theorem postReport_jobs (r : Report) (p : Part) : (postReport r p).jobs = p.jobs := by
  unfold postReport; split <;> rfl
@[simp] theorem postReport_slots (r : Report) (p : Part) : (postReport r p).slots = p.slots := by
  unfold postReport; split <;> rfl
@[simp] theorem postReport_blocks (r : Report) (p : Part) : (postReport r p).blocks = p.blocks := by
  unfold postReport; split <;> rfl
@[simp] theorem postReport_freeList (r : Report) (p : Part) : (postReport r p).freeList = p.freeList := by
  unfold postReport; split <;> rfl
@[simp] theorem postReport_records (r : Report) (p : Part) : (postReport r p).records = p.records := by
  unfold postReport; split <;> rfl
@[simp] theorem postReport_nextId (r : Report) (p : Part) : (postReport r p).nextId = p.nextId := by
  unfold postReport; split <;> rfl
@[simp] theorem postReport_lanes (r : Report) (p : Part) : (postReport r p).lanes = p.lanes := by
  unfold postReport; split <;> rfl
@[simp] theorem postReport_lnk_transport (r : Report) (p : Part) : (postReport r p).lnk.transport = p.lnk.transport := by
  unfold postReport; split <;> rfl
@[simp] theorem postReport_lnk_parser (r : Report) (p : Part) : (postReport r p).lnk.parser = p.lnk.parser := by
  unfold postReport; split <;> rfl
@[simp] theorem postReport_lnk_intake (r : Report) (p : Part) : (postReport r p).lnk.intake = p.lnk.intake := by
  unfold postReport; split <;> rfl
@[simp] theorem postReport_lnk_finishing (r : Report) (p : Part) : (postReport r p).lnk.finishing = p.lnk.finishing := by
  unfold postReport; split <;> rfl
@[simp] theorem postReport_lnk_resetting (r : Report) (p : Part) : (postReport r p).lnk.resetting = p.lnk.resetting := by
  unfold postReport; split <;> rfl
@[simp] theorem postReport_lnk_responses (r : Report) (p : Part) : (postReport r p).lnk.responses = p.lnk.responses := by
  unfold postReport; split <;> rfl
@[simp] theorem postReport_lnk_turn (r : Report) (p : Part) : (postReport r p).lnk.turn = p.lnk.turn := by
  unfold postReport; split <;> rfl
@[simp] theorem postReport_lnk_inFlight (r : Report) (p : Part) : (postReport r p).lnk.inFlight = p.lnk.inFlight := by
  unfold postReport; split <;> rfl
@[simp] theorem postReport_lnk_sdo (r : Report) (p : Part) : (postReport r p).lnk.sdo = p.lnk.sdo := by
  unfold postReport; split <;> rfl
@[simp] theorem postReport_lnk_errors (r : Report) (p : Part) : (postReport r p).lnk.errors = p.lnk.errors := by
  unfold postReport; split <;> rfl

/-- All that postReport can do (R164): with a place free the report enters carrying the lost count, otherwise the lost count rises; nothing
but the report queue and the lost count changes. -/
theorem postReport_spec (r : Report) (p : Part) :
    (p.lnk.reports.length < 16 ∧ postReport r p = { p with lnk := { p.lnk with
      reports := p.lnk.reports ++ [{ lost := p.lnk.lost, report := r }], lost := 0 } }) ∨
    (16 ≤ p.lnk.reports.length ∧ postReport r p = { p with lnk := { p.lnk with lost := min (p.lnk.lost + 1) 255 } }) := by
  unfold postReport
  split
  · rename_i h
    exact .inl ⟨h, rfl⟩
  · rename_i h
    exact .inr ⟨Nat.le_of_not_lt h, rfl⟩

/-! ### The state after reset -/

@[simp] theorem reset_jobs : State.reset.part.jobs = [] := rfl
@[simp] theorem reset_records : State.reset.part.records = [] := rfl
@[simp] theorem reset_nextId : State.reset.part.nextId = 1 := rfl
@[simp] theorem reset_history : State.reset.part.history = [] := rfl
@[simp] theorem reset_blocks : State.reset.part.blocks = [] := rfl
theorem reset_freeList : State.reset.part.freeList = allBlocks := by
  simp only [State.reset, Part.atPowerOn, Part.cleared]
@[simp] theorem reset_pending : State.reset.pending = [] := rfl

end Sys2Proof.Machine
end

