-- ==== Sys2Proof/Laws/Ops.lean ====
section
/-!
SUPPORT. What each shared operation of Record Memory, the windows and the lanes can do, said once.
-/

namespace Sys2Proof.Machine

/-! ### Lists -/

/-- Changing the first match keeps every image that the change keeps. -/
theorem map_modifyFirst {α β : Type} (g : α → β) (q : α → Bool) (f : α → α) (h : ∀ a, g (f a) = g a) :
    ∀ l : List α, (modifyFirst q f l).map g = l.map g
  | [] => rfl
  | a :: as => by
    simp only [modifyFirst]
    split
    · simp [h]
    · simp [map_modifyFirst g q f h as]

/-- Changing the first match keeps the length. -/
theorem length_modifyFirst {α : Type} (q : α → Bool) (f : α → α) (l : List α) : (modifyFirst q f l).length = l.length := by
  have h := congrArg List.length (map_modifyFirst (fun _ => ()) q f (fun _ => rfl) l)
  simpa using h

/-- The first match after a change of the first match, where the change keeps the key. -/
theorem find_modifyFirst {α : Type} (q : α → Bool) (f : α → α) (h : ∀ a, q (f a) = q a) :
    ∀ l : List α, (modifyFirst q f l).find? q = (l.find? q).map f
  | [] => rfl
  | a :: as => by
    simp only [modifyFirst]
    by_cases hq : q a
    · simp [hq, h]
    · simp [hq, find_modifyFirst q f h as]

/-- A record changed under its ID is found changed, if the change keeps the ID. -/
theorem findRecord_modifyRecord (id : Nat) (f : Record → Record) (h : ∀ r, (f r).id = r.id) (p : Part) :
    findRecord (modifyRecord id f p) id = (findRecord p id).map f := by
  unfold findRecord modifyRecord
  exact find_modifyFirst _ f (fun r => by simp [h]) p.records

/-- A found record has the ID. -/
theorem findRecord_id {p : Part} {id : Nat} {r : Record} (h : findRecord p id = some r) : r.id = id := by
  have := List.find?_some h
  simpa using this

/-! ### Record Memory -/

/-- All that a free can do (R13). -/
theorem freeRecord_spec (id : Nat) (p : Part) :
    (findRecord p id = none ∧ freeRecord id p = p) ∨
    (∃ r, findRecord p id = some r ∧ freeRecord id p =
      { p with freeList := p.freeList ++ r.chain, records := p.records.eraseP (fun x => x.id == id) }) := by
  unfold freeRecord
  cases h : findRecord p id with
  | none => exact .inl ⟨rfl, rfl⟩
  | some r => exact .inr ⟨r, rfl, rfl⟩

/-- All that a trim can do (R4). -/
theorem trimChain_spec (id : Nat) (p : Part) :
    (findRecord p id = none ∧ trimChain id p = p) ∨
    (∃ r, findRecord p id = some r ∧ trimChain id p =
      { modifyRecord id (fun r => { r with chain := r.chain.take (blocksFor r.words) }) p with
        freeList := p.freeList ++ r.chain.drop (blocksFor r.words) }) := by
  unfold trimChain
  cases h : findRecord p id with
  | none => exact .inl ⟨rfl, rfl⟩
  | some r => exact .inr ⟨r, rfl, rfl⟩

/-! ### Windows -/

/-- With no job waiting nothing can open. -/
theorem nextOpen_no_job {p : Part} (h : p.jobs = []) : nextOpen p = none := by
  unfold nextOpen
  rw [h]
  cases freeSlot p <;> rfl

/-- With every slot taken nothing can open. -/
theorem nextOpen_no_slot {p : Part} (h : ∀ w : Fin 4, p.slots[w].isSome = true) : nextOpen p = none := by
  have hs : freeSlot p = none := by
    unfold freeSlot
    rw [List.find?_eq_none]
    intro w _
    have := h w
    cases hw : p.slots[w] <;> simp_all
  unfold nextOpen
  rw [hs]

/-- A re-examination that can open nothing changes nothing (R62). -/
theorem reexamineFor_none {p : Part} (h : nextOpen p = none) : ∀ n, reexamineFor n p = p
  | 0 => rfl
  | n + 1 => by simp only [reexamineFor, h]

theorem reexamine_no_job {p : Part} (h : p.jobs = []) : reexamine p = p :=
  reexamineFor_none (nextOpen_no_job h) _

theorem reexamine_no_slot {p : Part} (h : ∀ w : Fin 4, p.slots[w].isSome = true) : reexamine p = p :=
  reexamineFor_none (nextOpen_no_slot h) _

/-- A property of the part that every open keeps is kept by a re-examination. -/
theorem reexamine_induct {P : Part → Prop}
    (hopen : ∀ p w j d pre blocks, nextOpen p = some (w, j, d, pre, blocks) → P p → P (openWindow w j d pre blocks p))
    {p : Part} (h : P p) : P (reexamine p) := by
  unfold reexamine
  generalize Config.windowSlots = n
  induction n generalizing p with
  | zero => exact h
  | succ n ih =>
    simp only [reexamineFor]
    split
    · rename_i w j d pre blocks e
      exact ih (hopen p w j d pre blocks e h)
    · exact h

/-- Locks raised change the channels alone. -/
theorem raiseLocks_frame (set : ChannelSet) (p : Part) :
    raiseLocks set p = { p with channels := (raiseLocks set p).channels } := by
  unfold raiseLocks
  generalize channelList set = l
  induction l generalizing p with
  | nil => rfl
  | cons c cs ih =>
    simp only [List.foldl_cons]
    rw [ih]
    rfl

/-- Locks lowered change the channels alone. -/
theorem lowerLocks_frame (set : ChannelSet) (p : Part) :
    lowerLocks set p = { p with channels := (lowerLocks set p).channels } := by
  unfold lowerLocks
  generalize channelList set = l
  induction l generalizing p with
  | nil => rfl
  | cons c cs ih =>
    simp only [List.foldl_cons]
    rw [ih]
    rfl

/-- What an open leaves alone (R67). -/
theorem openWindow_frame (w : Fin 4) (j : Job) (d : PlanDef) (pre blocks : Nat) (p : Part) :
    openWindow w j d pre blocks p = { p with
      jobs := p.jobs.erase j
      freeList := p.freeList.drop blocks
      records := (openWindow w j d pre blocks p).records
      nextId := (openWindow w j d pre blocks p).nextId
      slots := (openWindow w j d pre blocks p).slots
      plans := (openWindow w j d pre blocks p).plans
      channels := (openWindow w j d pre blocks p).channels } := by
  simp only [openWindow, setSlot, modifyPlan]
  rw [raiseLocks_frame]

/-- What a re-examination leaves alone: the Sampler, history, the trigger side, the block contents, the lanes and the link. -/
theorem reexamine_frame (p : Part) :
    reexamine p = { p with
      jobs := (reexamine p).jobs, freeList := (reexamine p).freeList, records := (reexamine p).records
      nextId := (reexamine p).nextId, slots := (reexamine p).slots, plans := (reexamine p).plans
      channels := (reexamine p).channels } := by
  refine reexamine_induct (P := fun q => q = { p with
    jobs := q.jobs, freeList := q.freeList, records := q.records, nextId := q.nextId, slots := q.slots
    plans := q.plans, channels := q.channels }) ?_ rfl
  intro q w j d pre blocks _ hq
  rw [openWindow_frame]
  rw [hq]

/-- What opens next does not depend on the lanes and the link. -/
theorem nextOpen_lanes_lnk (lanes : Vector Lane 2) (lnk : Link) (p : Part) :
    nextOpen { p with lanes := lanes, lnk := lnk } = nextOpen p := rfl

/-- An open neither reads nor changes the lanes and the link. -/
theorem openWindow_lanes_lnk (w : Fin 4) (j : Job) (d : PlanDef) (pre blocks : Nat) (lanes : Vector Lane 2) (lnk : Link) (p : Part) :
    openWindow w j d pre blocks { p with lanes := lanes, lnk := lnk } =
      { openWindow w j d pre blocks p with lanes := lanes, lnk := lnk } := by
  have h : ∀ (set : ChannelSet) (p : Part), raiseLocks set { p with lanes := lanes, lnk := lnk } =
      { raiseLocks set p with lanes := lanes, lnk := lnk } := by
    intro set p
    unfold raiseLocks
    generalize channelList set = l
    induction l generalizing p with
    | nil => rfl
    | cons c cs ih =>
      simp only [List.foldl_cons]
      exact ih (modifyChannel c (fun ch => { ch with lockCount := ch.lockCount + 1 }) p)
  have h' := h d.channels { p with
    jobs := p.jobs.erase j, freeList := p.freeList.drop blocks
    records := p.records ++ [newRecord p j d pre (nextRecordId p) (p.freeList.take blocks)], nextId := advanceId (nextRecordId p) }
  exact congrArg (fun q => setSlot w (some (newWindow j d pre (nextRecordId p)))
    (modifyPlan j.plan (fun pl => { pl with openRecord := some (nextRecordId p) }) q)) h'

/-- A re-examination neither reads nor changes the lanes and the link (R62). -/
theorem reexamine_lanes_lnk (lanes : Vector Lane 2) (lnk : Link) (p : Part) :
    reexamine { p with lanes := lanes, lnk := lnk } = { reexamine p with lanes := lanes, lnk := lnk } := by
  unfold reexamine
  generalize Config.windowSlots = n
  induction n generalizing p with
  | zero => rfl
  | succ n ih =>
    simp only [reexamineFor, nextOpen_lanes_lnk]
    split
    · rw [openWindow_lanes_lnk]
      exact ih _
    · rfl

/-! ### Lanes -/

/-- All that the beginning of a staging can do (R84, R88): nothing; the current record's next packet begins staging; or the record at the head of the
delivery queue becomes current with its header staging. -/
theorem beginStaging_spec (l : Fin 2) (p : Part) :
    beginStaging l p = p ∨
    (∃ b c r, stagingTarget p.lanes[l] = some b ∧ currentDue p.lanes[l] = some c ∧ findRecord p c.recordId = some r ∧
      beginStaging l p = stageCurrent l b c r p) ∨
    (∃ b id rest r, stagingTarget p.lanes[l] = some b ∧ currentDue p.lanes[l] = none ∧ p.lanes[l].queue = id :: rest ∧
      findRecord p id = some r ∧ beginStaging l p = stageHead l b r p) := by
  unfold beginStaging
  simp only
  split
  · exact .inl rfl
  · rename_i b hb
    split
    · rename_i c hc
      split
      · rename_i r hr
        exact .inr (.inl ⟨b, c, r, hb, hc, hr, rfl⟩)
      · exact .inl rfl
    · rename_i hc
      split
      · exact .inl rfl
      · rename_i id rest hq
        split
        · rename_i r hr
          exact .inr (.inr ⟨b, id, rest, r, hb, hc, hq, hr, rfl⟩)
        · exact .inl rfl

/-- The beginning of a staging changes the lanes and the records alone. -/
theorem beginStaging_frame (l : Fin 2) (p : Part) :
    beginStaging l p = { p with lanes := (beginStaging l p).lanes, records := (beginStaging l p).records } := by
  rcases beginStaging_spec l p with h | ⟨b, c, r, -, -, -, h⟩ | ⟨b, id, rest, r, -, -, -, -, h⟩ <;> rw [h] <;> rfl

/-- The beginning of a staging keeps the IDs and the chains of the records. -/
theorem beginStaging_ids (l : Fin 2) (p : Part) :
    (beginStaging l p).records.map (fun r => (r.id, r.chain)) = p.records.map (fun r => (r.id, r.chain)) := by
  rcases beginStaging_spec l p with h | ⟨b, c, r, -, -, -, h⟩ | ⟨b, id, rest, r, -, -, -, -, h⟩ <;> rw [h]
  · simp [stageCurrent]
  · simp only [stageHead, modifyLane_records, modifyRecord]
    exact map_modifyFirst _ _ recordSending (fun _ => rfl) _

/-- A hand-off changes the lanes and the records alone (R83). -/
theorem handOff_frame (l : Fin 2) (id : Nat) (p : Part) :
    handOff l id p = { p with lanes := (handOff l id p).lanes, records := (handOff l id p).records } := by
  unfold handOff
  rw [beginStaging_frame]
  rfl

end Sys2Proof.Machine
end

