-- ==== Sys2Proof/Laws/Link.lean ====
section
/-!
SUPPORT. How a command comes to its answer: admission, execution and the response, said once.
-/

namespace Sys2Proof.Machine

/-- A part that a command frame has reached, with the command alone in the intake queue. -/
def Part.holding (tag : Byte) (payload : List Byte) (p : Part) : Part :=
  { p with lnk := { p.lnk with parser := Parser.hunting, intake := [{ tag := tag, payload := payload }] } }

/-- A command frame that the part accepts at once (R159, R161) executes in its event. -/
theorem commandArrives_accepts {tag : Byte} {p : Part} (h : Accepts tag p) (payload : List Byte) :
    commandArrives tag payload p = applyReply (runPayload payload (p.holding tag payload)) := by
  obtain ⟨htag, hin, hrun, hfin, hres, hload⟩ := h
  have hload' : ¬ Config.intakePlaces ≤ intakeLoad (parserToHunt p).lnk := by
    have : intakeLoad (parserToHunt p).lnk = intakeLoad p.lnk := rfl
    omega
  simp only [commandArrives, takeCommand, if_neg htag, parserToHunt_lnk_intake, hin, List.any_nil, Bool.false_eq_true,
    if_false, if_neg hload', admitCommand, List.nil_append, drain, List.length_singleton, executeFor, executeHead, executing,
    parserToHunt_trg, parserToHunt_lnk_finishing, parserToHunt_lnk_resetting, hrun, hfin, hres, Option.isSome_none, Bool.or_false]
  unfold Part.holding
  simp only [hfin, hres]
  rfl

/-- The same for a host command, whose payload LNK reads as the command itself. -/
theorem hostCommand_accepts {tag : Byte} {p : Part} (h : Accepts tag p) (c : Command)
    (hc : decodePayload (encodeCommand c) = .command c) :
    hostCommand tag c p = applyReply (runCommand c (p.holding tag (encodeCommand c))) := by
  rw [hostCommand, commandArrives_accepts h, runPayload, hc]

/-- The answer to the one command in the intake queue (R160, R161, R162). -/
theorem answerHead_singleton {q : Part} {c : IntakeCommand} (h : q.lnk.intake = [c]) (status : Status) (results : List Byte) :
    answerHead status results q = { q with lnk := { q.lnk with
      intake := [], responses := q.lnk.responses ++ [commandResponse c status results] } } := by
  unfold answerHead
  rw [h]
  rfl

/-- A command that changes neither the link's own state nor reads it leaves the answered part (R161). -/
theorem answerHead_holding {tag : Byte} {payload : List Byte} {p : Part} (h : p.lnk.intake = []) (status : Status)
    (results : List Byte) :
    answerHead status results (p.holding tag payload) = Part.answered tag (payloadCode payload) status results p := by
  rw [answerHead_singleton rfl]
  unfold Part.holding Part.answered reservedResponse commandResponse
  simp only [h]

/-- A command that takes time leaves the begun part (R161). -/
theorem begin_holding (tag : Byte) (payload : List Byte) (p : Part) :
    applyReply (takenInTime (p.holding tag payload)) = Part.begun tag payload p := rfl

/-- A command frame that the part accepts, as the step of its row (R159, R161). -/
theorem onEvent_hostCommand {s : State} {tag : Byte} (h : Accepts tag (arbitrated s.part)) (c : Command)
    (hc : decodePayload (encodeCommand c) = .command c) :
    onEvent (hostCommand tag c) s =
      .next (s.withPart (applyReply (runCommand c ((arbitrated s.part).holding tag (encodeCommand c))))) := by
  rw [onEvent_eq, hostCommand_accepts h c hc]

/-- The same for a command whose event may meet the arbiter's start of a DATA frame. -/
theorem onMeeting_hostCommand {s : State} {lanes : Fin 2 → Bool} {tag : Byte} (h : Accepts tag (partFound lanes s.part)) (c : Command)
    (hc : decodePayload (encodeCommand c) = .command c) :
    onMeeting lanes (hostCommand tag c) s = .next (s.withPart (startAfter lanes s.part
      (applyReply (runCommand c ((partFound lanes s.part).holding tag (encodeCommand c)))))) := by
  rw [onMeeting_eq, hostCommand_accepts h c hc]

/-- A drain with nothing in the intake queue changes nothing. -/
theorem drain_empty {p : Part} (h : p.lnk.intake = []) : drain p = p := by
  unfold drain
  rw [h]
  rfl

/-- With a command in execution, none begins. -/
theorem executeFor_executing {p : Part} (h : executing p = true) : ∀ n, executeFor n p = p
  | 0 => rfl
  | n + 1 => by
    have hh : executeHead p = p := by
      unfold executeHead
      split
      · rfl
      · rw [if_pos h]
    rw [executeFor, hh]
    exact executeFor_executing h n

/-- A property of the part that answers keep, and that every owner's command keeps, is kept by the execution of commands. -/
theorem drain_induct {P : Part → Prop}
    (hexec : ∀ (c : IntakeCommand) (rest : List IntakeCommand) (p : Part), p.lnk.intake = c :: rest → executing p = false → P p →
      P (applyReply (runPayload c.payload p)))
    {p : Part} (h : P p) : P (drain p) := by
  unfold drain
  generalize p.lnk.intake.length = n
  induction n generalizing p with
  | zero => exact h
  | succ n ih =>
    refine ih ?_
    unfold executeHead
    split
    · exact h
    · rename_i c rest hc
      split
      · exact h
      · rename_i he
        exact hexec c rest p hc (by simpa using he) h

/-! ### The frame start that is due -/

/-- What the lanes announce: each lane by itself, and nothing else changes. -/
theorem announced_frame (p : Part) : announced p = { p with lanes := (announced p).lanes } := rfl

theorem announced_get (l : Fin 2) (p : Part) : (announced p).lanes[l] = announcedLane p.lanes[l] := by
  unfold announced
  rw [modifyLane_get]
  by_cases h : (1 : Fin 2) = l
  · subst h
    rw [if_pos rfl, modifyLane_get_other (by decide)]
  · have h0 : (0 : Fin 2) = l := by omega
    subst h0
    rw [if_neg h, modifyLane_get_self]

/-- All that the arbiter can do (R165): nothing, or the start of the response, the report or the DATA frame whose turn it is. -/
theorem startFrame_spec (p : Part) :
    (startFrame p = p ∧ (p.lnk.inFlight.isSome = true ∨
      (p.lnk.responses = [] ∧ p.lnk.reports = [] ∧ readyLane p = none))) ∨
    (∃ r rest, p.lnk.inFlight = none ∧ p.lnk.responses = r :: rest ∧
      startFrame p = putInFlight (.response r.resetFull) (frameBytes 0x20 r.tag (responsePayload r))
        { p with lnk := { p.lnk with responses := rest } }) ∨
    (∃ q rest, p.lnk.inFlight = none ∧ p.lnk.responses = [] ∧ p.lnk.reports = q :: rest ∧
      startFrame p = putInFlight .report (frameBytes 0x21 0 (reportPayload q)) { p with lnk := { p.lnk with reports := rest } }) ∨
    (∃ l k, p.lnk.inFlight = none ∧ p.lnk.responses = [] ∧ p.lnk.reports = [] ∧ readyLane p = some (l, k) ∧
      startFrame p = startData l k p) := by
  unfold startFrame
  split
  · rename_i h
    exact .inl ⟨rfl, .inl h⟩
  · rename_i h
    have h : p.lnk.inFlight = none := by simpa using h
    split
    · rename_i r rest hr
      exact .inr (.inl ⟨r, rest, h, hr, rfl⟩)
    · rename_i q rest hr hq
      exact .inr (.inr (.inl ⟨q, rest, h, hr, hq, rfl⟩))
    · rename_i hr hq
      split
      · rename_i l k hl
        exact .inr (.inr (.inr ⟨l, k, h, hr, hq, hl, rfl⟩))
      · rename_i hl
        exact .inl ⟨rfl, .inr ⟨hr, hq, hl⟩⟩

/-- The start of a DATA frame changes the lanes, the records, the turn and the frame in flight alone (R90, R165). -/
theorem startData_frame (l : Fin 2) (k : Packet) (p : Part) :
    startData l k p = { p with
      lanes := (startData l k p).lanes, records := (startData l k p).records
      lnk := { p.lnk with turn := 1 - l, inFlight := (startData l k p).lnk.inFlight } } := by
  simp only [startData, startLane, putInFlight]
  rw [beginStaging_frame]
  rfl

/-- A frame start that is due changes the lanes, the records, the outbound queues, the turn and the frame in flight alone (R165). -/
theorem arbitrated_frame (p : Part) :
    arbitrated p = { p with
      lanes := (arbitrated p).lanes, records := (arbitrated p).records
      lnk := { p.lnk with
        responses := (arbitrated p).lnk.responses, reports := (arbitrated p).lnk.reports
        turn := (arbitrated p).lnk.turn, inFlight := (arbitrated p).lnk.inFlight } } := by
  unfold arbitrated
  rcases startFrame_spec (announced p) with ⟨h, -⟩ | ⟨r, rest, -, -, h⟩ | ⟨q, rest, -, -, -, h⟩ | ⟨l, k, -, -, -, -, h⟩ <;> rw [h]
  · rfl
  · rfl
  · rfl
  · rw [startData_frame]
    rfl

/-! ### Events that meet the start of a DATA frame -/

theorem announcedLane_idem (ln : Lane) : announcedLane (announcedLane ln) = announcedLane ln := by
  unfold announcedLane
  split
  · simp
  · rfl

/-- What the lanes have announced they need not announce again. -/
theorem announced_idem (p : Part) : announced (announced p) = announced p := by
  have h : (announced (announced p)).lanes = (announced p).lanes := by
    refine Vector.ext fun i hi => ?_
    have h := announced_get ⟨i, hi⟩ p
    exact (announced_get ⟨i, hi⟩ (announced p)).trans ((congrArg announcedLane h).trans ((announcedLane_idem _).trans h.symm))
  rw [announced_frame (announced p), h]

/-- With a frame in flight, or with none waiting, no DATA frame is due. -/
theorem dueLane_none {p : Part} (h : p.lnk.inFlight.isSome = true ∨ readyLane p = none) : dueLane p = none := by
  unfold dueLane
  rcases h with h | h
  · simp [h]
  · split
    · rfl
    · rw [h]
      rfl

/-- With a frame in flight the arbiter starts none. -/
theorem startFrame_busy {p : Part} (h : p.lnk.inFlight.isSome = true) : startFrame p = p := by
  unfold startFrame
  rw [if_pos h]

/-- After the due start either a frame is in flight, or none waits. -/
theorem arbitrated_rests (p : Part) : (arbitrated p).lnk.inFlight.isSome = true ∨
    (arbitrated p = announced p ∧ (announced p).lnk.responses = [] ∧ (announced p).lnk.reports = [] ∧
      readyLane (announced p) = none) := by
  unfold arbitrated
  rcases startFrame_spec (announced p) with ⟨h, hb | hn⟩ | ⟨r, rest, -, -, h⟩ | ⟨q, rest, -, -, -, h⟩ | ⟨l, k, -, -, -, -, h⟩ <;> rw [h]
  · exact .inl hb
  · exact .inr ⟨rfl, hn⟩
  all_goals exact .inl rfl

/-- No event meets a start once the due start has been made. -/
theorem startMeets_arbitrated (lanes : Fin 2 → Bool) (p : Part) : startMeets lanes (arbitrated p) = false := by
  have h : dueLane (announced (arbitrated p)) = none := by
    rcases arbitrated_rests p with h | ⟨h, -, -, hr⟩
    · exact dueLane_none (.inl h)
    · rw [h, announced_idem]
      exact dueLane_none (.inr hr)
  rw [startMeets, h]
  rfl

theorem startMeets_announced (lanes : Fin 2 → Bool) (p : Part) : startMeets lanes (announced p) = startMeets lanes p := by
  rw [startMeets, startMeets, announced_idem]

/-- Where an event meets no start it finds the due start made, and nothing starts after it. -/
theorem onMeeting_apart {lanes : Fin 2 → Bool} {s : State} (h : startMeets lanes s.part = false) (f : Part → Part) :
    onMeeting lanes f s = onEvent f s := by
  simp only [onMeeting, onEvent, onPart, startAfter, partFound, h, Bool.false_eq_true, if_false]

/-- Where an event meets the start of a DATA frame it is taken first, and the arbiter starts a frame after it. -/
theorem onMeeting_first {lanes : Fin 2 → Bool} {s : State} (h : startMeets lanes s.part = true) (f : Part → Part) :
    onMeeting lanes f s = .next (s.withPart (arbitrated (f (announced s.part)))) := by
  simp only [onMeeting, onPart, startAfter, partFound, h, if_true]

/-- What an event that may meet a start finds done differs from the part in what a frame start changes, and in nothing else. -/
theorem partFound_frame (lanes : Fin 2 → Bool) (p : Part) :
    partFound lanes p = { p with
      lanes := (partFound lanes p).lanes, records := (partFound lanes p).records
      lnk := { p.lnk with
        responses := (partFound lanes p).lnk.responses, reports := (partFound lanes p).lnk.reports
        turn := (partFound lanes p).lnk.turn, inFlight := (partFound lanes p).lnk.inFlight } } := by
  unfold partFound
  split
  · rfl
  · exact arbitrated_frame p

end Sys2Proof.Machine
end

