-- ==== Sys2Proof/Laws/Memory.lean ====
section
/-!
SUPPORT. The laws of memory: reading after writing, and that every memory operation keeps the canonical form.
-/

namespace Sys2Proof.Machine

/-- Reading at an address that is not listed. -/
theorem Memory.read_unlisted : ∀ (m : Memory) (a : Nat), (∀ c ∈ m, c.1 ≠ a) → Memory.read m a = unlistedByte
  | [], _, _ => rfl
  | (k, b) :: rest, a, h => by
    have hk : k ≠ a := h (k, b) List.mem_cons_self
    simp only [Memory.read, if_neg hk]
    exact Memory.read_unlisted rest a (fun c hc => h c (List.mem_cons_of_mem _ hc))

/-- The tail of a canonical memory is canonical. -/
theorem Memory.wf_tail {x : Host.Cell} {m : Memory} (h : Memory.wf (x :: m)) : Memory.wf m :=
  ⟨(List.pairwise_cons.1 h.1).2, fun c hc => h.2 c (List.mem_cons_of_mem _ hc)⟩

/-- An entry put before larger addresses keeps the canonical form. -/
theorem Memory.cons_wf {a : Nat} {b : Byte} {m : Memory} (h : Memory.wf m) (ha : ∀ c ∈ m, a < c.1) :
    Memory.wf (Memory.cons a b m) := by
  unfold Memory.cons
  split
  · exact h
  · rename_i hb
    refine ⟨List.pairwise_cons.2 ⟨ha, h.1⟩, fun c hc => ?_⟩
    rcases List.mem_cons.1 hc with rfl | hc
    · exact hb
    · exact h.2 c hc

/-- An entry of a written memory is the one written or was there before. -/
theorem Memory.mem_write {a : Nat} {b : Byte} {x : Host.Cell} :
    ∀ {m : Memory}, x ∈ Memory.write a b m → x = (a, b) ∨ x ∈ m
  | [], h => by
    simp only [Memory.write, Memory.cons] at h
    split at h <;> simp_all
  | (k, c) :: rest, h => by
    simp only [Memory.write] at h
    split at h
    · rcases List.mem_cons.1 h with rfl | h
      · exact .inr List.mem_cons_self
      · exact (Memory.mem_write h).imp_right (List.mem_cons_of_mem _)
    · split at h <;> simp only [Memory.cons] at h <;> split at h <;> simp_all <;> tauto

/-- A write keeps the canonical form. -/
theorem Memory.write_wf (a : Nat) (b : Byte) : ∀ {m : Memory}, Memory.wf m → Memory.wf (Memory.write a b m)
  | [], h => Memory.cons_wf h (by simp)
  | (k, c) :: rest, h => by
    have hk : ∀ x ∈ rest, k < x.1 := (List.pairwise_cons.1 h.1).1
    simp only [Memory.write]
    split
    · rename_i hlt
      have ih := Memory.write_wf a b (Memory.wf_tail h)
      refine ⟨List.pairwise_cons.2 ⟨fun x hx => ?_, ih.1⟩, fun x hx => ?_⟩
      · rcases Memory.mem_write hx with rfl | hx
        · exact hlt
        · exact hk x hx
      · rcases List.mem_cons.1 hx with rfl | hx
        · exact h.2 _ List.mem_cons_self
        · exact ih.2 x hx
    · split
      · rename_i heq
        exact Memory.cons_wf (Memory.wf_tail h) (fun x hx => heq ▸ hk x hx)
      · refine Memory.cons_wf h (fun x hx => ?_)
        rcases List.mem_cons.1 hx with rfl | hx
        · show a < k
          omega
        · have := hk x hx
          omega

/-- A word's write keeps the canonical form. -/
theorem Memory.writeWord_wf (a : Nat) (w : BitVec 16) {m : Memory} (h : Memory.wf m) : Memory.wf (Memory.writeWord a w m) :=
  Memory.write_wf _ _ (Memory.write_wf _ _ h)

/-- What a put entry reads as. -/
theorem Memory.read_cons (a : Nat) (b : Byte) (m : Memory) (x : Nat) (h : ∀ c ∈ m, a < c.1) :
    Memory.read (Memory.cons a b m) x = if a = x then b else Memory.read m x := by
  unfold Memory.cons
  split
  · rename_i hb
    split
    · rename_i hx
      subst hx
      rw [Memory.read_unlisted m a (fun c hc => (Nat.ne_of_lt (h c hc)).symm), hb]
    · rfl
  · rfl

/-- Reading a canonical memory after a write: the byte written at its address, every other byte as before. -/
theorem Memory.read_write (a : Nat) (b : Byte) (x : Nat) :
    ∀ {m : Memory}, Memory.wf m → Memory.read (Memory.write a b m) x = if a = x then b else Memory.read m x
  | [], _ => Memory.read_cons a b [] x (by simp)
  | (k, c) :: rest, h => by
    have hk : ∀ y ∈ rest, k < y.1 := (List.pairwise_cons.1 h.1).1
    simp only [Memory.write]
    split
    · rename_i hlt
      simp only [Memory.read]
      split
      · rename_i hx
        rw [if_neg (by omega)]
      · exact Memory.read_write a b x (Memory.wf_tail h)
    · split
      · rename_i heq
        rw [Memory.read_cons a b rest x (fun y hy => heq ▸ hk y hy)]
        simp only [Memory.read, heq]
        split <;> rfl
      · rw [Memory.read_cons a b _ x]
        intro y hy
        rcases List.mem_cons.1 hy with rfl | hy
        · show a < k
          omega
        · have := hk y hy
          omega

/-- A byte outside a written word reads as before. -/
theorem Memory.read_writeWord_other {a : Nat} (w : BitVec 16) {x : Nat} {m : Memory} (h : Memory.wf m) (h0 : x ≠ a)
    (h1 : x ≠ a + 1) : Memory.read (Memory.writeWord a w m) x = Memory.read m x := by
  unfold Memory.writeWord
  rw [Memory.read_write _ _ _ (Memory.write_wf _ _ h), if_neg (fun e => h1 e.symm), Memory.read_write _ _ _ h,
    if_neg (fun e => h0 e.symm)]

/-- The two bytes of a word give the word back. -/
theorem byteWord_bytes (w : BitVec 16) : byteWord (w.extractLsb' 0 8) (w.extractLsb' 8 8) = w := by
  unfold byteWord
  ext i hi
  simp only [BitVec.getElem_append, BitVec.getElem_extractLsb']
  split
  · simp [BitVec.getLsbD_eq_getElem hi]
  · rename_i h
    rw [show 8 + (i - 8) = i by omega]
    simp [BitVec.getLsbD_eq_getElem hi]

/-- A word read back from where it was written. -/
theorem Memory.readWord_writeWord (a : Nat) (w : BitVec 16) {m : Memory} (h : Memory.wf m) :
    Memory.readWord (Memory.writeWord a w m) a = w := by
  unfold Memory.readWord Memory.writeWord
  rw [Memory.read_write _ _ _ (Memory.write_wf _ _ h), Memory.read_write _ _ _ (Memory.write_wf _ _ h),
    Memory.read_write _ _ _ h, if_neg (by omega), if_pos rfl, if_pos rfl, byteWord_bytes]

/-- The words written into a chain keep the canonical form. -/
theorem storeWords_wf (chain : List Nat) : ∀ (codes : List SampleCode) (w : Nat) {m : Memory}, Memory.wf m →
    Memory.wf (storeWords chain w codes m)
  | [], _, _, h => h
  | code :: codes, w, m, h => by
    simp only [storeWords]
    refine storeWords_wf chain codes (w + 1) ?_
    split
    · exact Memory.writeWord_wf _ _ h
    · exact h

/-- The reset state's memories have the canonical form. -/
theorem reset_memories_wf : Memory.wf State.reset.part.history ∧ Memory.wf State.reset.part.blocks := by
  constructor <;> exact ⟨List.Pairwise.nil, fun _ h => nomatch h⟩

end Sys2Proof.Machine
end

