-- ==== Sys2Proof/Laws/PerInstr.lean ====
section
/-!
SUPPORT. Statements for all steps, made per step: what the checks of WellFormed admit.
-/

namespace Sys2Proof.Laws.WellFormedOperands

/-- The checks admit a step exactly when a frame's payload fits a frame (R155), the payload of UNKNOWN_COMMAND names no command of the command
table (R173), and a frame discarded for its CRC or its kind has had its tag taken (R156). -/
def Statement (i : Instr) : Prop :=
  i.wellFormed = true ↔
    (∀ tag payload, i = .commandFrame tag payload → payload.length ≤ 1024) ∧
    (∀ tag payload, i = .unknownCommand tag payload →
      payload.length ≤ 1024 ∧ ∀ code rest, payload = code :: rest → code ∉ commandCodes) ∧
    (∀ fault tag, i = .frameDiscard fault tag → fault ≠ .badLength → tag ≠ none)

/-- The statement for a step that is none of the three. -/
theorem of_other (i : Instr) (h : i.wellFormed = true) (h1 : ∀ tag payload, i ≠ .commandFrame tag payload)
    (h2 : ∀ tag payload, i ≠ .unknownCommand tag payload) (h3 : ∀ fault tag, i ≠ .frameDiscard fault tag) : Statement i :=
  ⟨fun _ => ⟨fun tag payload e => absurd e (h1 tag payload), fun tag payload e => absurd e (h2 tag payload),
    fun fault tag e => absurd e (h3 fault tag)⟩, fun _ => h⟩

theorem powerOn (pins : ResetPins) : Statement (.powerOn pins) :=
  of_other _ rfl nofun nofun nofun

theorem resetPin (pins : ResetPins) : Statement (.resetPin pins) :=
  of_other _ rfl nofun nofun nofun

theorem extEdge (line : Fin 4) (level : Bool) : Statement (.extEdge line level) :=
  of_other _ rfl nofun nofun nofun

theorem tickEvent (inputs : Vector Int 8) : Statement (.tickEvent inputs) :=
  of_other _ rfl nofun nofun nofun

theorem spanEnd (channel : Fin 8) : Statement (.spanEnd channel) :=
  of_other _ rfl nofun nofun nofun

theorem tickLimitStop : Statement .tickLimitStop :=
  of_other _ rfl nofun nofun nofun

theorem offer : Statement .offer :=
  of_other _ rfl nofun nofun nofun

theorem jobExpiry : Statement .jobExpiry :=
  of_other _ rfl nofun nofun nofun

theorem copyEnd (slot : Fin 4) : Statement (.copyEnd slot) :=
  of_other _ rfl nofun nofun nofun

theorem windowSeal (slot : Fin 4) : Statement (.windowSeal slot) :=
  of_other _ rfl nofun nofun nofun

theorem stagingEnd (lane buffer : Fin 2) : Statement (.stagingEnd lane buffer) :=
  of_other _ rfl nofun nofun nofun

theorem frameStart : Statement .frameStart :=
  of_other _ rfl nofun nofun nofun

theorem frameComplete (pins : ResetPins) : Statement (.frameComplete pins) :=
  of_other _ rfl nofun nofun nofun

theorem ack (lane seq verdict : Byte) : Statement (.ack lane seq verdict) :=
  of_other _ rfl nofun nofun nofun

theorem ackTimerExpiry (lane : Fin 2) : Statement (.ackTimerExpiry lane) :=
  of_other _ rfl nofun nofun nofun

theorem backoffTimerExpiry (lane : Fin 2) : Statement (.backoffTimerExpiry lane) :=
  of_other _ rfl nofun nofun nofun

theorem commandFrame (tag : Byte) (payload : List Byte) : Statement (.commandFrame tag payload) := by
  simp [Statement, Instr.wellFormed, payloadFits, Config.largestPayload]
  exact decide_eq_true_iff

theorem frameDiscard (fault : FrameFault) (tag : Option Byte) : Statement (.frameDiscard fault tag) := by
  cases fault <;> cases tag <;> simp [Statement, Instr.wellFormed, discardNamesTag]

theorem gapExpiry : Statement .gapExpiry :=
  of_other _ rfl nofun nofun nofun

theorem csRise : Statement .csRise :=
  of_other _ rfl nofun nofun nofun

theorem unknownCommand (tag : Byte) (payload : List Byte) : Statement (.unknownCommand tag payload) := by
  cases payload <;> simp [Statement, Instr.wellFormed, payloadFits, hasUnknownCode, Config.largestPayload]

theorem inquire (tag : Byte) : Statement (.inquire tag) :=
  of_other _ rfl nofun nofun nofun

theorem status (tag : Byte) : Statement (.status tag) :=
  of_other _ rfl nofun nofun nofun

theorem resetFull (tag : Byte) : Statement (.resetFull tag) :=
  of_other _ rfl nofun nofun nofun

theorem resetFlush (tag : Byte) : Statement (.resetFlush tag) :=
  of_other _ rfl nofun nofun nofun

theorem samplingSet (tag rate : Byte) (channels : BitVec 16) : Statement (.samplingSet tag rate channels) :=
  of_other _ rfl nofun nofun nofun

theorem samplingStart (tag : Byte) : Statement (.samplingStart tag) :=
  of_other _ rfl nofun nofun nofun

theorem samplingStop (tag : Byte) : Statement (.samplingStop tag) :=
  of_other _ rfl nofun nofun nofun

theorem rangeSet (tag channel range : Byte) : Statement (.rangeSet tag channel range) :=
  of_other _ rfl nofun nofun nofun

theorem rangeMode (tag channel mode : Byte) : Statement (.rangeMode tag channel mode) :=
  of_other _ rfl nofun nofun nofun

theorem channelGet (tag channel : Byte) : Statement (.channelGet tag channel) :=
  of_other _ rfl nofun nofun nofun

theorem extlineSet (tag line enabled edge : Byte) : Statement (.extlineSet tag line enabled edge) :=
  of_other _ rfl nofun nofun nofun

theorem detectorSet (tag channel enabled : Byte) (threshold hysteresis : BitVec 16) (direction : Byte) : Statement (.detectorSet tag channel enabled threshold hysteresis direction) :=
  of_other _ rfl nofun nofun nofun

theorem trigger (tag mask : Byte) : Statement (.trigger tag mask) :=
  of_other _ rfl nofun nofun nofun

theorem planDefine (tag plan : Byte) (definition : PlanArgs) : Statement (.planDefine tag plan definition) :=
  of_other _ rfl nofun nofun nofun

theorem planClear (tag plan : Byte) : Statement (.planClear tag plan) :=
  of_other _ rfl nofun nofun nofun

theorem planStart (tag plan : Byte) : Statement (.planStart tag plan) :=
  of_other _ rfl nofun nofun nofun

theorem planStopGraceful (tag plan : Byte) : Statement (.planStopGraceful tag plan) :=
  of_other _ rfl nofun nofun nofun

theorem planStopAbort (tag plan : Byte) : Statement (.planStopAbort tag plan) :=
  of_other _ rfl nofun nofun nofun

theorem planGet (tag plan : Byte) : Statement (.planGet tag plan) :=
  of_other _ rfl nofun nofun nofun

theorem recordList (tag : Byte) : Statement (.recordList tag) :=
  of_other _ rfl nofun nofun nofun

theorem recordDiscard (tag : Byte) (id : BitVec 16) : Statement (.recordDiscard tag id) :=
  of_other _ rfl nofun nofun nofun

theorem recordRelease (tag : Byte) (id : BitVec 16) : Statement (.recordRelease tag id) :=
  of_other _ rfl nofun nofun nofun

theorem recordReplay (tag : Byte) (id : BitVec 16) : Statement (.recordReplay tag id) :=
  of_other _ rfl nofun nofun nofun

theorem laneSet (tag lane k : Byte) (ackTimeout backoff : BitVec 16) (retryLimit : Byte) : Statement (.laneSet tag lane k ackTimeout backoff retryLimit) :=
  of_other _ rfl nofun nofun nofun

theorem laneClearHalt (tag lane : Byte) : Statement (.laneClearHalt tag lane) :=
  of_other _ rfl nofun nofun nofun

theorem laneGet (tag lane : Byte) : Statement (.laneGet tag lane) :=
  of_other _ rfl nofun nofun nofun

theorem inboundByte (arrival : ByteArrival) : Statement (.inboundByte arrival) :=
  of_other _ rfl nofun nofun nofun

theorem catchUpCopyFrame (slot : Fin 4) : Statement (.catchUpCopyFrame slot) :=
  of_other _ rfl nofun nofun nofun

end Sys2Proof.Laws.WellFormedOperands
end

