-- ==== Sys2Proof/Tests/Slice0.lean ====
section
/-!
SUPPORT. The model's own tests: the checks refuse ill-formed operands; worked examples of the manual; and, for every statement that has
hypotheses, a concrete state and operands that meet them together (witness_…).
-/

namespace Sys2Proof.Tests

-- The tests one after another: their kernel evaluations side by side would each take a thread.
set_option Elab.async false

open Sys2Proof Sys2Proof.Machine

/-! ### WellFormed refuses -/

theorem test_payload_too_long : (Instr.commandFrame 1 (List.replicate 1025 0)).wellFormed = false := by decide +kernel

theorem test_payload_longest : (Instr.commandFrame 1 (List.replicate 1024 0)).wellFormed = true := by decide +kernel

theorem test_known_code_is_not_unknown : (Instr.unknownCommand 1 [0x52, 0]).wellFormed = false := by decide

theorem test_crc_discard_names_its_tag : (Instr.frameDiscard .badCrc none).wellFormed = false := by decide

theorem test_kind_discard_names_its_tag : (Instr.frameDiscard .badKind none).wellFormed = false := by decide

/-! ### Small parts -/

/-- The part after reset, with the frame of RESET_DONE gone. -/
def fresh : Part := { State.reset.part with lnk := { State.reset.part.lnk with reports := [] } }

/-- The part after a step. -/
def after (i : Instr) (p : Part) : Part :=
  match exec i { part := p, pending := [] } with
  | .next s => s.part
  | .fault _ => p
  | .refused _ => p

def running : Part := { fresh with smp := { fresh.smp with running := true } }

def atLimit : Part := { fresh with smp := { fresh.smp with running := true, newest := some 281474976710655 } }

def noFlags : RecordFlags := { shortPre := false, truncated := false, clipped := false, rangeUnknown := false, replayed := false }

def record7 : Record :=
  { id := 7, plan := 0, lane := 0, retain := true, sources := 1, tick := 2, preRequested := 0, preStored := 0,
    postRequested := 4, decimation := 1, channels := 1, segments := [], state := .opened, postStored := 0, frames := 0,
    words := 0, flags := noFlags, chain := [5], deliveries := 0 }

def window7 : Window :=
  { recordId := 7, plan := 0, tick := 2, first := 2, last := 5, decimation := 1, channels := 1, copyPos := 2,
    phase := .copying, clipped := false }

def plan1 : PlanDef :=
  { channels := 1, decimation := 1, pre := 0, post := 4, sources := 1, runMode := .single, policy := .drop, holdoff := 10,
    lane := 0, retain := true }

def packet (index total : Nat) : Packet :=
  { recordId := 7, index := index, total := total, valid := 64, bytes := [] }

def withRecord (state : RecordState) : Part :=
  { fresh with records := [{ record7 with state := state }], freeList := (List.range 1024).erase 5, nextId := 8 }

def withWindow (phase : Phase) (newest : Nat) : Part :=
  { withRecord .opened with
    smp := { fresh.smp with running := true, newest := some newest, tickCounter := newest + 1 }
    slots := fresh.slots.set 0 (some { window7 with phase := phase }) }

def fullSlots : Part := { fresh with slots := Vector.replicate 4 (some window7) }

def planned (state : PlanState) : Part :=
  { fullSlots with
    plans := fresh.plans.set 0 { Plan.reset with state := state, definition := some plan1, shots := .count 1 }
    trg := { fresh.trg with offers := [{ tick := 9, sources := 1, softMask := none, unseenBy := 0 }] } }

def spanning (mode : RangeMode) (locks : Nat) : Part :=
  { fresh with channels := fresh.channels.set 2 { Channel.reset with
      range := 1, mode := mode, counted := if mode = .once then some 7 else none, spanPos := 255, spanPeak := 11000
      arriving := some 100, lockCount := locks } }

/-- Lane L0 with packet 1 of 3 (or of 2, its last) awaiting in B0 and packet 2 in B1. -/
def laneAt (state : LaneState) (total : Nat) : Part :=
  { withRecord .sending with lanes := fresh.lanes.set 0 { Lane.reset with
      state := state
      current := some { recordId := 7, total := total, next := total }
      buffers := #v[.holding (packet 1 total), .holding (packet 2 total)]
      awaiting := some { recordId := 7, index := 1, buffer := 0 }
      resync := false
      ackTimer := if state = .awaiting then some 50 else none
      backoffTimer := if state = .backoff then some 10 else none
      halt := if state = .halted then some .host else none } }

def inFlightOf (cargo : Cargo) (p : Part) : Part :=
  { p with lnk := { p.lnk with inFlight := some { cargo := cargo, bytes := [0xC3], exchanged := 0 } } }

def overSpi (p : Part) : Part := { p with lnk := { p.lnk with transport := .spi } }

def parserIn (state : ParserState) (kept : List Byte) (p : Part) : Part :=
  { p with lnk := { p.lnk with parser := { Parser.hunting with state := state, kept := kept, length := 3 } } }

def triggered : Part :=
  { planned .running with
    trg := { (planned .running).trg with run := some { mask := 1, firedAt := some 9 } }
    lnk := { fresh.lnk with intake := [{ tag := 3, payload := [0x22, 1] }] } }

/-- A part whose re-examination opens a job of plan P0. -/
def waiting : Part := { fresh with
  smp := { fresh.smp with running := true, newest := some 9, tickCounter := 10 }
  plans := fresh.plans.set 0 { Plan.reset with state := .running, definition := some plan1 }
  jobs := [{ plan := 0, sources := 1, tick := 9 }] }

/-- P0 and P1 both watch the offer of tick 9. -/
def bothPlanned : Part := { planned .running with plans := (planned .running).plans.set 1 ((planned .running).plans[(0 : Fin 8)]) }

/-- The verdicts of the plans on the offer that waits, each on the part that the plans below have left. -/
def verdicts (p : Part) : List (Option Judgement) :=
  match p.trg.offers with
  | [] => []
  | o :: rest => (List.finRange 8).map (fun i => offerVerdict o i (judgedBelow o { p with trg := { p.trg with offers := rest } } i.val))

/-- Two LIVE windows whose records share no block, and one in COPYING beside them. -/
def twoWindows : Part :=
  { withWindow .live 4 with
    records := [{ record7 with state := .opened }, { record7 with id := 8, chain := [6] }, { record7 with id := 9, chain := [8] }]
    slots := #v[some { window7 with phase := .live }, none, some { window7 with recordId := 8, phase := .live },
      some { window7 with recordId := 9 }] }

/-- A window in COPYING whose next aligned tick, 2, the tick event of tick 16,386 overwrites. -/
def atLoss : Part := withWindow .copying 16385

/-- Lane L0 with packet 1 of record 6 awaiting in B0 and a spare buffer; record 7 is DELIVERED. -/
def behindAwaiting (spare : Buffer) : Part :=
  { withRecord .delivered with lanes := fresh.lanes.set 0 { Lane.reset with
      state := .awaiting, ackTimer := some 50, current := some { recordId := 6, total := 2, next := 2 }
      buffers := #v[.holding { packet 1 2 with recordId := 6 }, spare], awaiting := some { recordId := 6, index := 1, buffer := 0 } } }

/-- A part whose inputs are all at a number of code steps of range 0. -/
def inputsAt (code : Int) : Vector Int 8 := Vector.replicate 8 (code * 2 ^ 15)

/-! ### The manual's worked examples -/

/-- Section 10.1: the CRC of INQUIRE with tag 5 is 3BCEh, and its frame's bytes. -/
theorem test_inquire_frame : frameBytes 0x10 5 [0x01] = [0xC3, 0x03, 0x00, 0x10, 0x05, 0x01, 0xCE, 0x3B] := by decide +kernel

/-- Section 10.1: the frame's bytes have the effect of INQUIRE. -/
theorem test_inquire_bytes : ([0xC3, 0x03, 0x00, 0x10, 0x05, 0x01, 0xCE, 0x3B] : List Byte).foldl
    (fun p b => after (.inboundByte ⟨b, defaultPins⟩) p) fresh = after (.inquire 5) fresh := by decide +kernel

/-- R127: the ends of the full scale at ranges 0 and 7, a quarter of 10.24 V at ranges 0 and 1, and one step below zero. -/
theorem test_conversion : convert 0 0 0 (2 ^ 30) = 0x7FFF ∧ convert 0 0 7 (2 ^ 23) = 0x7FFF ∧ convert 0 0 0 (-(2 ^ 30)) = 0x8000 ∧
    convert 0 0 0 (2 ^ 28) = 8192 ∧ convert 0 0 1 (2 ^ 28) = 16384 ∧ convert 0 0 7 (-(2 ^ 8)) = 0xFFFF := by decide

/-- Section 9.8: with TRIGGER in execution and three commands behind it, a fifth is refused with OVERFLOW and a tag in use with TAG_IN_USE. -/
theorem test_burst : ((([.trigger 1 1, .status 2, .planGet 3 0, .laneGet 4 0, .inquire 5, .inquire 3] : List Instr).foldl
    (fun p i => after i p) (inFlightOf .report running)).lnk.responses.map (fun r => (r.tag, r.status))) = [(5, .overflow), (3, .tagInUse)] := by
  decide +kernel

/-- Section 3.3, the detector of CH2 with threshold 1,000 and hysteresis 200: 1,150 from BELOW does not cross, 1,250 does. -/
theorem test_detector_table :
    crossing { enabled := true, threshold := 1000, hysteresis := 200, direction := .rising, state := .below } 1150 = (.below, none) ∧
    crossing { enabled := true, threshold := 1000, hysteresis := 200, direction := .rising, state := .below } 1250 =
      (.above, some true) ∧
    crossing { enabled := true, threshold := 1000, hysteresis := 200, direction := .rising, state := .above } 790 =
      (.below, some false) := by decide

/-- Section 5.3, the table of R86: 5,000 words at k = 8 and k = 3. -/
theorem test_packet_table : dataPackets 5000 512 = 20 ∧ validBytes 5000 512 20 = 272 ∧ dataPackets 5000 192 = 53 ∧
    validBytes 5000 192 53 = 16 ∧ totalPackets 0 512 = 1 := by decide

/-- Section 11.3: 29,532 words need 116 blocks, and 1,383 is the actual pre length for tick 301,000 and oldest 299,617. -/
theorem test_reservation : blocksFor 29532 = 116 ∧ actualPre 1 2000 301000 299617 = 1383 := by decide

/-- Section 11.7: a peak of 11,000 at range 1 narrows CH2. -/
theorem test_span_narrows : spanDecision 2 1 11000 false = .narrow ∧ spanDecision 2 0 32768 true = .keep := by decide

/-- Section 8: the span end narrows an unlocked TRACK channel and logs tick 0 of a run without a sample. -/
theorem test_span_end : ((after (.spanEnd 2) (spanning .track 0)).channels[2]).range = 2 ∧
    ((after (.spanEnd 2) (spanning .track 1)).channels[2]).range = 1 := by decide +kernel

/-- Section 11.5: the retry that exceeds the limit halts the lane; the one before makes the resend due. -/
theorem test_retry_limit : ((after (.ackTimerExpiry 0) (laneAt .awaiting 3)).lanes[0]).state = .ready ∧
    ((after (.ack 0 0 1) { laneAt .awaiting 3 with
      lanes := (laneAt .awaiting 3).lanes.set 0 { (laneAt .awaiting 3).lanes[0] with retries := 3 } }).lanes[0]).state =
      .halted := by decide +kernel

/-- R113, the ack timer's expiry first: the resend is due, and the HALT then halts the lane; R109, with the arbiter's start first: the halt is noted. -/
theorem test_expiry_then_halt :
    ((([.ackTimerExpiry 0, .ack 0 0 3] : List Instr).foldl (fun p i => after i p) (laneAt .awaiting 3)).lanes[0]).halt = some .host ∧
    ((([.ackTimerExpiry 0, .frameStart, .ack 0 0 3] : List Instr).foldl (fun p i => after i p) (laneAt .awaiting 3)).lanes[0]).haltNoted =
      true := by decide +kernel

/-- R113, R106: the ACCEPT withdraws the resend that the expiry has made due, and the packet after it is the one that starts. -/
theorem test_expiry_then_accept :
    let p := ([.ackTimerExpiry 0, .ack 0 0 0] : List Instr).foldl (fun p i => after i p) (laneAt .awaiting 3)
    (p.lanes[0]).awaiting = some { recordId := 7, index := 2, buffer := 1 } ∧ (p.lanes[0]).counters.resends = 0 := by decide +kernel

/-- R97: a discard taken before the arbiter's start of the record's packet; the packet never leaves the part. -/
theorem test_discard_before_start : (after (.recordDiscard 1 7) (laneAt .ready 3)).lnk.inFlight.any (fun f => f.cargo == .data 0) =
    false ∧ (after (.recordDiscard 1 7) (laneAt .ready 3)).records = [] := by decide +kernel

/-- R181: the header of a record replayed to an idle lane begins staging in the command's event. -/
theorem test_replay_to_an_idle_lane :
    ((after (.recordReplay 1 7) (withRecord .delivered)).records.map (fun r => r.state)) = [.sending] := by decide +kernel

/-- R88: the header of a record replayed behind the awaiting last packet of another begins staging in the EMPTY spare buffer. -/
theorem test_replay_into_the_spare : ((after (.recordReplay 1 7) (behindAwaiting .empty)).records.map (fun r => r.state)) = [.sending] := by
  decide +kernel

/-- R181: with no buffer free the replayed record stands SEALED at the tail of the queue. -/
theorem test_replay_waits_sealed :
    ((after (.recordReplay 1 7) (behindAwaiting (.holding { packet 2 3 with recordId := 6 }))).records.map (fun r => r.state)) = [.sealed] ∧
    ((after (.recordReplay 1 7) (behindAwaiting (.holding { packet 2 3 with recordId := 6 }))).lanes[0]).queue = [7] := by decide +kernel

/-- Section 11.5: after LANE_CLEAR_HALT the awaiting packet is in B0 and the packet after it is staged again into B1. -/
theorem test_clear_halt : ((after (.laneClearHalt 4 0) (laneAt .halted 3)).lanes[0]).state = .ready ∧
    ((after (.laneClearHalt 4 0) (laneAt .halted 3)).lanes[0]).resync = true := by decide +kernel

/-- Section 11.1: the last shot's acceptance drains the plan, and the job's queue place is its own. -/
theorem test_last_shot : ((after .offer (planned .running)).plans[0]).state = .draining ∧
    (after .offer (planned .running)).jobs = [{ plan := 0, sources := 1, tick := 9 }] := by decide +kernel

/-- Section 9.5: a response goes before a report. -/
theorem test_response_first :
    let p : Part := { fresh with lnk := { fresh.lnk with
      responses := [reservedResponse 5 1 .ok []], reports := [{ lost := 0, report := .samplerStopped 9 }] } }
    (after .frameStart p).lnk.responses = [] ∧ (after .frameStart p).lnk.reports = p.lnk.reports := by decide +kernel

/-- R171: the first frame after a device reset is RESET_DONE; the response to a command that arrives then waits behind it. -/
theorem test_reset_done_first :
    (([.resetPin defaultPins, .inquire 5] : List Instr).foldl (fun p i => after i p) fresh).lnk.reports = [] ∧
    (([.resetPin defaultPins, .inquire 5] : List Instr).foldl (fun p i => after i p) fresh).lnk.responses.length = 1 := by
  decide +kernel

/-- Section 9.6: a RESET FULL takes effect at the end of its OK response's frame. -/
theorem test_reset_full : (([.resetFull 5, .frameStart, .frameComplete defaultPins] : List Instr).foldl
    (fun p i => after i p) fresh).lnk.reports = [{ lost := 0, report := .resetDone .command }] := by decide +kernel

/-- Section 7: a tick's code stands in history, low byte first. -/
theorem test_history : historyCode (after (.tickEvent (inputsAt 0x1234)) running) 3 0 = 0x1234 ∧
    (after (.tickEvent (inputsAt 0x1234)) running).smp.newest = some 0 := by decide +kernel

/-- R161: a command that takes time holds the one behind it back until its response is queued. -/
theorem test_execution_takes_time :
    ((([.samplingStop 1, .inquire 2] : List Instr).foldl (fun p i => after i p) running).lnk.responses = []) ∧
    ((elapse (([.samplingStop 1, .inquire 2] : List Instr).foldl (fun p i => after i p) running)).lnk.responses.map
      (fun r => r.tag)) = [1, 2] := by decide +kernel

/-- R153: under SPI the exchange of the last byte completes the frame. -/
theorem test_spi_completion :
    (after (.inboundByte ⟨0, defaultPins⟩) (overSpi (inFlightOf .report fresh))).lnk.inFlight = none ∧
    (after (.inboundByte ⟨0, defaultPins⟩) (overSpi (inFlightOf .report fresh))).lnk.sdo = 0xC3 := by decide +kernel

/-- Section 4.5: a copied frame is a frame of the record, its word in the record's block. -/
theorem test_copy_frame : (after (.catchUpCopyFrame 0) (withWindow .copying 3)).records.map (fun r => (r.frames, r.words)) =
    [(1, 1)] := by decide +kernel

/-- R17 and R15 in the record's states. -/
theorem test_record_commands :
    (after (.recordRelease 1 7) (withRecord .delivered)).records = [] ∧
    (after (.recordRelease 1 7) (withRecord .delivered)).lnk.finishing = true ∧
    ((after (.recordRelease 1 7) (withRecord .sealed)).lnk.responses.map (fun r => r.status)) = [.badState] ∧
    ((after (.recordDiscard 1 9) (withRecord .sealed)).lnk.responses.map (fun r => r.status)) = [.noSuch] := by decide +kernel

/-! ### Every statement's hypotheses can be met -/

theorem witness_accepts : arbitrated fresh = fresh ∧ Accepts 1 fresh := by decide +kernel

theorem witness_PowerAndPinResetTheDevice : ∃ (step : Instr) (cause : ResetCause),
    (step = .powerOn defaultPins ∧ cause = .power) ∨ (step = .resetPin defaultPins ∧ cause = .pin) :=
  ⟨.powerOn defaultPins, .power, .inl ⟨rfl, rfl⟩⟩

/-- The clauses in turn: an execution that ends; timers that run and expire in both lanes; a drain with nothing, and with a command, to do. -/
theorem witness_IdleStepEndsAnExecutionOrPassesAMillisecond :
    (let p : Part := { fresh with lnk := { fresh.lnk with intake := [{ tag := 3, payload := [0x12] }], finishing := true } }
     arbitrated p = p ∧ p.lnk.finishing = true ∧ p.lnk.intake = { tag := 3, payload := [0x12] } :: [] ∧ executing p = true) ∧
    (arbitrated (laneAt .awaiting 3) = laneAt .awaiting 3 ∧ (laneAt .awaiting 3).lnk.finishing = false ∧
      LaneTimersSound (laneAt .awaiting 3)) ∧
    (let p : Part := { fresh with lnk := { fresh.lnk with intake := [{ tag := 3, payload := [0x01] }] } }
     p.lnk.intake = { tag := 3, payload := [0x01] } :: [] ∧ executing p = false) ∧ fresh.lnk.intake = [] := by decide +kernel

theorem witness_ExtEdgeUpdatesLevelAndLatch : arbitrated running = running := by decide +kernel

theorem witness_TriggerUnitCommandsWriteTheirSettings : arbitrated running = running ∧ Accepts 255 running := by decide +kernel

theorem witness_TickEventFormsOneOffer : arbitrated running = running ∧ running.smp.running = true ∧
    running.smp.newest ≠ some Config.lastTick := by decide +kernel

/-- An offer handed to P0 alone, and one handed to no plan. -/
theorem witness_OfferIsJudgedByTheRunningPlan :
    (arbitrated (planned .running) = planned .running ∧
      (planned .running).trg.offers = { tick := 9, sources := 1, softMask := none, unseenBy := 0 } :: [] ∧
      (planned .running).trg.run = none ∧ ((planned .running).plans[(0 : Fin 8)]).definition = some plan1 ∧
      ((planned .running).plans[(0 : Fin 8)]).state = .running ∧ (0 : PlanSet).getLsbD 0 = false ∧
      Watches { tick := 9, sources := 1, softMask := none, unseenBy := 0 } plan1 0 ∧
      (∀ j : Fin 8, j ≠ 0 → (planned .running).plans[j].state ≠ .running)) ∧
    ((planned .done).trg.offers ≠ [] ∧ ∀ j : Fin 8, (planned .done).plans[j].state ≠ .running) := by decide +kernel

/-- No offer; an offer that no plan accepts; one that two plans accept; and one of which the second plan finds the queue full. -/
theorem witness_OfferClaimsPlacesInPlanOrder :
    (arbitrated fresh = fresh ∧ fresh.trg.offers = []) ∧
    (arbitrated (planned .done) = planned .done ∧ (planned .done).trg.offers ≠ [] ∧ (planned .done).trg.run = none ∧
      (planned .done).jobs.length ≤ 8 ∧ verdicts (planned .done) = List.replicate 8 none) ∧
    (arbitrated bothPlanned = bothPlanned ∧ bothPlanned.trg.offers ≠ [] ∧ bothPlanned.trg.run = none ∧
      (verdicts bothPlanned).take 2 = [some .accepted, some .accepted]) ∧
    (let p := { bothPlanned with jobs := List.replicate 7 { plan := 5, sources := 1, tick := 1 } }
     arbitrated p = p ∧ p.jobs.length ≤ 8 ∧ (verdicts p).take 2 = [some .accepted, some (.dropped .queueFull)]) := by decide +kernel

theorem witness_OfferAnswersTheTrigger : arbitrated triggered = triggered ∧ triggered.trg.offers ≠ [] ∧
    triggered.trg.run = some { mask := 1, firedAt := some 9 } ∧ triggered.lnk.intake = [{ tag := 3, payload := [0x22, 1] }] ∧
    (verdicts triggered).take 2 = [some .accepted, none] := by decide +kernel

/-- The ends of the full scale, a whole number of steps and an input between two steps; a running Sampler and a stopped one; a code on its way to RNG
inside a span, and none. -/
theorem witness_TickEventSamplesTheEnabledChannels :
    ((7 : Nat) ≤ 7 ∧ (2 : Int) ^ (30 - 7) ≤ 2 ^ 23 ∧ -(2 ^ 23) ≤ -((2 : Int) ^ (30 - 7)) ∧ (-256 : Int) = -1 * 2 ^ (15 - 7) ∧
      32767 * 2 ^ (15 - 7) < (2 ^ 23 - 1 : Int) ∧ (2 ^ 23 - 1 : Int) < (32767 + 1) * 2 ^ (15 - 7)) ∧
    (arbitrated running = running ∧ Memory.wf running.history ∧ running.smp.running = true ∧
      running.smp.newest ≠ some 281474976710655) ∧
    (arbitrated fresh = fresh ∧ Memory.wf fresh.history ∧ fresh.smp.running = false) ∧
    (let p : Part := { fresh with channels := fresh.channels.set 2 { Channel.reset with spanPos := 254, arriving := some 100 } }
     arbitrated p = p ∧ (p.channels[(2 : Fin 8)]).arriving = some 100 ∧ (p.channels[(2 : Fin 8)]).spanPos + 1 < 256 ∧
       (p.channels[(0 : Fin 8)]).arriving = none) ∧
    atLimit.smp.newest = some 281474976710655 := by decide +kernel

theorem witness_SamplingSetWritesRateAndChannels : arbitrated fresh = fresh ∧ Accepts 2 fresh := by decide +kernel

theorem witness_SamplingStartBeginsARun : arbitrated fresh = fresh ∧ Accepts 2 fresh := by decide +kernel

/-- A stop in STOPPED; one in RUNNING; and one that seals a LIVE window whose record no queue names. -/
theorem witness_SamplingStopEndsTheRun :
    (arbitrated fresh = fresh ∧ Accepts 2 fresh ∧ PlansAccounted fresh ∧ fresh.smp.running = false) ∧
    (arbitrated running = running ∧ Accepts 2 running ∧ PlansAccounted running ∧ running.smp.running = true) ∧
    (arbitrated (withWindow .live 4) = withWindow .live 4 ∧ Accepts 2 (withWindow .live 4) ∧ PlansAccounted (withWindow .live 4) ∧
      (withWindow .live 4).smp.running = true ∧ (withWindow .live 4).slots[(0 : Fin 4)] = some { window7 with phase := .live } ∧
      findRecord (withWindow .live 4) 7 = some record7 ∧ (∀ l : Fin 2, 7 ∉ (withWindow .live 4).lanes[l].queue) ∧
      (∀ v : Fin 4, v ≠ 0 → (withWindow .live 4).slots[v] = none)) :=
  ⟨by decide +kernel, by decide +kernel, by decide +kernel⟩

theorem witness_TickLimitStopEndsTheRun :
    (arbitrated running = running ∧ running.smp.newest ≠ some 281474976710655) ∧
    (arbitrated atLimit = atLimit ∧ PlansAccounted atLimit ∧ atLimit.smp.running = true ∧
      atLimit.smp.newest = some 281474976710655 ∧ atLimit.trg.run = none) ∧
    (let p : Part := { atLimit with
       trg := { atLimit.trg with run := some { mask := 1, firedAt := none } }
       lnk := { atLimit.lnk with intake := [{ tag := 9, payload := [0x22, 1] }] } }
     arbitrated p = p ∧ PlansAccounted p ∧ p.smp.running = true ∧ p.smp.newest = some 281474976710655) := by decide +kernel

theorem witness_SpanEndMovesAnUnlockedTrackRange :
    (arbitrated (spanning .track 0) = spanning .track 0 ∧ ((spanning .track 0).channels[(2 : Fin 8)]).arriving = some 100 ∧
      ((spanning .track 0).channels[(2 : Fin 8)]).spanPos = 255 ∧ ((spanning .track 0).channels[(2 : Fin 8)]).mode = .track ∧
      ((spanning .track 0).channels[(2 : Fin 8)]).lockCount = 0) ∧
    (((spanning .track 4).channels[(2 : Fin 8)]).arriving = some 100 ∧ ((spanning .track 4).channels[(2 : Fin 8)]).spanPos = 255 ∧
      0 < ((spanning .track 4).channels[(2 : Fin 8)]).lockCount) ∧
    ((spanning .manual 0).channels[(2 : Fin 8)]).mode = .manual := by decide +kernel

theorem witness_SpanEndCountsTowardAOncePass :
    arbitrated (spanning .once 0) = spanning .once 0 ∧
    ((spanning .once 0).channels[(2 : Fin 8)]).arriving = some 100 ∧ ((spanning .once 0).channels[(2 : Fin 8)]).spanPos = 255 ∧
    ((spanning .once 0).channels[(2 : Fin 8)]).mode = .once ∧ ((spanning .once 0).channels[(2 : Fin 8)]).lockCount = 0 ∧
    ((spanning .once 0).channels[(2 : Fin 8)]).counted = some 7 := by decide +kernel

theorem witness_RangeSetMovesAndLogsAManualRange : (arbitrated fresh = fresh ∧ Accepts 2 fresh ∧ Channel.reset.log = []) ∧
    (let log : List LogEntry := (List.range 8).map (fun n => { tick := n, range := 0 })
     log = log.dropLast ++ [{ tick := 7, range := 0 }] ∧ (7 : Nat) ≠ 8 ∧ log = { tick := 0, range := 0 } :: log.tail ∧
       log.tail.length = 7) := by decide +kernel

theorem witness_RangeModeStartsANewSpan : arbitrated (spanning .once 4) = spanning .once 4 ∧ Accepts 2 (spanning .once 4) := by
  decide +kernel

theorem witness_PlanDefineWritesTheWholeDefinition : arbitrated (planned .done) = planned .done ∧ Accepts 2 (planned .done) := by
  decide +kernel

theorem witness_PlanClearEmptiesThePlan : arbitrated (planned .halted) = planned .halted ∧ Accepts 2 (planned .halted) := by
  decide +kernel

theorem witness_PlanStartRunsThePlan : arbitrated (planned .ready) = planned .ready ∧ Accepts 2 (planned .ready) := by
  decide +kernel

theorem witness_PlanStopGracefulDrainsThePlan : arbitrated (planned .running) = planned .running ∧ Accepts 2 (planned .running) := by
  decide +kernel

/-- A plan index above 7; a plan that does not run; a DRAINING plan without a window; and a RUNNING one with its window in W0. -/
theorem witness_PlanStopAbortHaltsThePlan :
    (arbitrated waiting = waiting ∧ Accepts 2 waiting ∧ 8 ≤ (8 : Byte).toNat ∧ (7 : Fin 8).val = (7 : Byte).toNat ∧
      (waiting.plans[(7 : Fin 8)]).state ≠ .running ∧ (waiting.plans[(7 : Fin 8)]).state ≠ .draining) ∧
    ((0 : Fin 8).val = (0 : Byte).toNat ∧ (waiting.plans[(0 : Fin 8)]).state = .running ∧ ∀ w : Fin 4, waiting.slots[w] = none) ∧
    (let p : Part := { withWindow .live 4 with
       plans := fresh.plans.set 0 { Plan.reset with state := .draining, definition := some plan1, openRecord := some 7 } }
     arbitrated p = p ∧ Accepts 2 p ∧ (p.plans[(0 : Fin 8)]).state = .draining ∧
       p.slots[(0 : Fin 4)] = some { window7 with phase := .live } ∧ window7.plan = 0 ∧ findRecord p 7 = some record7 ∧
       (∀ v : Fin 4, v ≠ 0 → p.slots[v] = none)) := by decide +kernel

/-- Two LIVE windows and a COPYING one at an aligned tick; for a decimation of 2 an unaligned one, the window's last; and a copy about to lose its tick. -/
theorem witness_LiveWindowStoresTheTicksFrame :
    (let p := twoWindows
     arbitrated p = p ∧ p.smp.running = true ∧ p.smp.newest ≠ some 281474976710655 ∧ Memory.wf p.blocks ∧
       p.slots[(0 : Fin 4)] = some { window7 with phase := .live } ∧ p.slots[(1 : Fin 4)] = none ∧
       p.slots[(2 : Fin 4)] = some { window7 with recordId := 8, phase := .live } ∧
       p.slots[(3 : Fin 4)] = some { window7 with recordId := 9 } ∧ 0 < window7.decimation ∧ p.smp.tickCounter < window7.first + 16384 ∧
       findRecord p 7 = some record7 ∧ findRecord p 8 = some { record7 with id := 8, chain := [6] } ∧
       record7.chain.Nodup ∧ (∀ b ∈ record7.chain, b ∉ [6]) ∧ window7.first ≤ p.smp.tickCounter ∧
       p.smp.tickCounter ≤ window7.last ∧ (p.smp.tickCounter - window7.first) % window7.decimation = 0) ∧
    ((5 - window7.first) % 2 ≠ 0 ∧ 5 = window7.last) ∧
    (arbitrated atLoss = atLoss ∧ atLoss.smp.running = true ∧ atLoss.slots[(0 : Fin 4)] = some window7 ∧
      window7.copyPos ≤ window7.first + 0 * window7.decimation ∧
      window7.first + 0 * window7.decimation < window7.copyPos + window7.decimation ∧
      window7.first + 0 * window7.decimation + 16384 = atLoss.smp.tickCounter) ∧
    ∃ u : State, exec (.catchUpCopyFrame 0) { part := atLoss, pending := [] } = .next u := by
  refine ⟨by decide +kernel, by decide +kernel, by decide +kernel, _, rfl⟩

theorem witness_CatchUpCopyReadsHistoryInOrder :
    (arbitrated (withWindow .copying 2) = withWindow .copying 2 ∧ (withWindow .copying 2).slots[(0 : Fin 4)] = some window7 ∧
      window7.phase = .copying ∧ (withWindow .copying 2).smp.newest = some 2 ∧ findRecord (withWindow .copying 2) 7 = some record7 ∧
      0 < window7.decimation ∧ window7.first ≤ window7.copyPos ∧ 2 = window7.first + 0 * window7.decimation ∧
      window7.copyPos ≤ 2 ∧ 2 < window7.copyPos + window7.decimation ∧ 2 ≤ window7.last) ∧
    ((withWindow .copying 1).slots[(0 : Fin 4)] = some window7 ∧ (withWindow .copying 1).smp.newest = some 1 ∧
      1 < window7.first + 0 * window7.decimation) := by decide +kernel

/-- The ending clause of the copy: from the newest tick 1 on, every aligned tick is still to be sampled. -/
theorem witness_CopyEnd (k : Nat) : 1 < window7.first + k * window7.decimation ∨
    window7.last < window7.first + k * window7.decimation :=
  .inl (by show 1 < 2 + k * 1; omega)

theorem witness_WindowSealCompletesTheRecord :
    (arbitrated (withWindow .ended 5) = withWindow .ended 5 ∧
      (withWindow .ended 5).slots[(0 : Fin 4)] = some { window7 with phase := .ended } ∧
      findRecord (withWindow .ended 5) 7 = some record7) ∧
    (withWindow .live 4).slots[(0 : Fin 4)] = some { window7 with phase := .live } := by decide +kernel

/-- No sample yet; no job gone; and a job of tick 0 gone at the newest tick 16,384. -/
theorem witness_JobExpiryRemovesJobsThatLeftHistory :
    (arbitrated fresh = fresh ∧ fresh.smp.newest = none) ∧
    (arbitrated waiting = waiting ∧ waiting.smp.newest = some 9 ∧ waiting.jobs.filter (fun j => decide (j.tick < 9 - 16383)) = []) ∧
    (let p : Part := { fullSlots with
       smp := { fresh.smp with newest := some 16384 }, jobs := [{ plan := 0, sources := 1, tick := 0 }] }
     arbitrated p = p ∧ p.smp.newest = some 16384 ∧ p.jobs.filter (fun j => decide (j.tick < 16384 - 16383)) ≠ []) := by
  decide +kernel

/-- An open that is due. -/
theorem witness_ReexaminationOpensTheOldestReadyJob :
    OpensNext waiting 0 [] { plan := 0, sources := 1, tick := 9 } [] plan1 0 9 ∧ 0 < plan1.decimation ∧ RecordIdsSound waiting ∧
      TakesId waiting 1 where
  left := {
    freeSlot := by decide +kernel
    sampled := rfl
    queue := rfl
    notReady := by simp
    ready := by decide +kernel
    definition := by decide +kernel
    aligned := rfl
    retained := by decide +kernel
    largest := fun m _ h _ => h
    recordSlot := by decide +kernel
    memory := by decide +kernel }
  right := ⟨by decide, by decide +kernel, 0, rfl, by simp [waiting, fresh, State.reset, Part.atPowerOn, Part.cleared], by simp⟩

/-- No open is due where no job waits. -/
theorem witness_NothingToOpen (w : Fin 4) (older : List Job) (j : Job) (younger : List Job) (d : PlanDef) (pre newest : Nat) :
    ¬ OpensNext fresh w older j younger d pre newest := by
  intro h
  have := h.queue
  simp [fresh, State.reset, Part.atPowerOn, Part.cleared] at this

theorem witness_SegmentsFollowTheRangeLog :
    let log : List LogEntry := [{ tick := 3, range := 1 }, { tick := 7, range := 2 }]
    0 < 2 ∧ log.Pairwise (fun a b => a.tick < b.tick) ∧ log = [{ tick := 3, range := 1 }] ++ { tick := 7, range := 2 } :: [] ∧
      (7 : Nat) ≤ 7 ∧ (∀ e ∈ log, 2 < e.tick) := by decide

theorem witness_RecordReleaseFreesADeliveredRecord :
    arbitrated (withRecord .delivered) = withRecord .delivered ∧ Accepts 2 (withRecord .delivered) := by decide +kernel

/-- Each record state, and a SENDING record with its packet awaiting, or with its header held and nothing awaiting; and one
whose start the command meets. -/
theorem witness_RecordDiscardFreesTheRecord :
    (partFound (fun _ => true) (withRecord .opened) = withRecord .opened ∧ Accepts 2 (withRecord .opened) ∧
      findRecord (withRecord .opened) (9 : BitVec 16).toNat = none ∧
      findRecord (withRecord .opened) (7 : BitVec 16).toNat = some record7 ∧
      findRecord (withRecord .delivered) (7 : BitVec 16).toNat = some { record7 with state := .delivered } ∧
      findRecord (withRecord .sealed) (7 : BitVec 16).toNat = some { record7 with state := .sealed }) ∧
    (let p := laneAt .awaiting 3
     partFound (fun _ => true) p = p ∧ Accepts 2 p ∧ findRecord p (7 : BitVec 16).toNat = some { record7 with state := .sending } ∧
       (p.lanes[(0 : Fin 2)]).awaiting = some { recordId := 7, index := 1, buffer := 0 } ∧ (p.lanes[(0 : Fin 2)]).seq = 0) ∧
    (let p : Part := { withRecord .sending with lanes := fresh.lanes.set 0 { Lane.reset with
       current := some { recordId := 7, total := 3, next := 1 }, buffers := #v[.filling (packet 0 3), .empty] } }
     partFound (fun _ => true) p = p ∧ Accepts 2 p ∧ findRecord p (7 : BitVec 16).toNat = some { record7 with state := .sending } ∧
       (p.lanes[(0 : Fin 2)]).awaiting = none ∧ ((p.lanes[(0 : Fin 2)]).buffers[(0 : Fin 2)]).packet = some (packet 0 3) ∧
       (packet 0 3).recordId = (7 : BitVec 16).toNat ∧ (p.lanes[(0 : Fin 2)]).releasing ≠ some 0) ∧
    (let p := laneAt .ready 3
     startMeets (fun _ => true) p = true ∧ partFound (fun _ => true) p = p ∧ Accepts 2 p) := by decide +kernel

/-- Each record state, an idle lane, a lane with its last packet awaiting and the spare buffer EMPTY, and one with no buffer free. -/
theorem witness_RecordReplayQueuesTheRecordAgain :
    (arbitrated (withRecord .delivered) = withRecord .delivered ∧ Accepts 2 (withRecord .delivered) ∧
      findRecord (withRecord .delivered) (9 : BitVec 16).toNat = none ∧
      findRecord (withRecord .delivered) (7 : BitVec 16).toNat = some { record7 with state := .delivered } ∧
      findRecord (withRecord .sealed) (7 : BitVec 16).toNat = some { record7 with state := .sealed } ∧
      ((withRecord .delivered).lanes[(0 : Fin 2)]).current = none ∧ ((withRecord .delivered).lanes[(0 : Fin 2)]).queue = [] ∧
      ((withRecord .delivered).lanes[(0 : Fin 2)]).awaiting = none ∧
      ((withRecord .delivered).lanes[(0 : Fin 2)]).buffers[(0 : Fin 2)] = .empty) ∧
    (let p := behindAwaiting .empty
     arbitrated p = p ∧ Accepts 2 p ∧ findRecord p (7 : BitVec 16).toNat = some { record7 with state := .delivered } ∧
       (p.lanes[(0 : Fin 2)]).current = some { recordId := 6, total := 2, next := 2 } ∧ (p.lanes[(0 : Fin 2)]).queue = [] ∧
       (p.lanes[(0 : Fin 2)]).awaiting = some { recordId := 6, index := 1, buffer := 0 } ∧ (p.lanes[(0 : Fin 2)]).seq = 0 ∧
       (p.lanes[(0 : Fin 2)]).buffers[(0 : Fin 2)] = .holding { packet 1 2 with recordId := 6 } ∧
       (p.lanes[(0 : Fin 2)]).buffers[(1 : Fin 2)] = .empty) ∧
    (let p := behindAwaiting (.holding { packet 2 3 with recordId := 6 })
     arbitrated p = p ∧ Accepts 2 p ∧ findRecord p (7 : BitVec 16).toNat = some { record7 with state := .delivered } ∧
       (p.lanes[(0 : Fin 2)]).awaiting ≠ none ∧ (p.lanes[(0 : Fin 2)]).buffers[(1 : Fin 2)] ≠ .empty) := by decide +kernel

theorem witness_LaneSetWritesTheConfiguration : arbitrated (laneAt .backoff 3) = laneAt .backoff 3 ∧ Accepts 2 (laneAt .backoff 3) := by
  decide +kernel

theorem witness_LaneClearHaltRestoresTheLane :
    arbitrated (laneAt .halted 3) = laneAt .halted 3 ∧ Accepts 2 (laneAt .halted 3) ∧
    ((laneAt .halted 3).lanes[(0 : Fin 2)]).state = .halted ∧ (0 : Fin 2).val = (0 : Byte).toNat ∧
    ((laneAt .halted 3).lanes[(1 : Fin 2)]).state ≠ .halted ∧ (1 : Fin 2).val = (1 : Byte).toNat ∧ 2 ≤ (2 : Byte).toNat := by
  decide +kernel

/-- A packet in flight, and one whose frame has gone; and one READY for a resend that the ACK meets. -/
theorem witness_AcceptanceSettlesThePacket :
    (let p := inFlightOf (.data 0) (laneAt .sending 3)
     partFound (ackMeets 0) p = p ∧ (0 : Fin 2).val = (0 : Byte).toNat % 2 ∧
       (p.lanes[(0 : Fin 2)]).awaiting = some { recordId := 7, index := 1, buffer := 0 } ∧ findRecord p 7 ≠ none ∧
       ((p.lanes[(0 : Fin 2)]).seq).val = (0 : Byte).toNat % 2 ∧ (0 : Byte).toNat % 4 = 0 ∧
       (p.lanes[(0 : Fin 2)]).state = .sending ∧ (p.lanes[(0 : Fin 2)]).haltNoted = false ∧
       (p.lanes[(0 : Fin 2)]).buffers[(0 : Fin 2)] = .holding (packet 1 3) ∧ (packet 1 3).index + 1 ≠ (packet 1 3).total) ∧
    (partFound (ackMeets 0) (laneAt .awaiting 3) = laneAt .awaiting 3 ∧ ((laneAt .awaiting 3).lanes[(0 : Fin 2)]).state = .awaiting) ∧
    (startMeets (ackMeets 0) (laneAt .ready 3) = true ∧ partFound (ackMeets 0) (laneAt .ready 3) = laneAt .ready 3 ∧
      ((laneAt .ready 3).lanes[(0 : Fin 2)]).state = .ready) := by
  decide +kernel

theorem witness_FinalAcceptanceCompletesTheDelivery :
    partFound (ackMeets 0) (laneAt .awaiting 2) = laneAt .awaiting 2 ∧
    ((laneAt .awaiting 2).lanes[(0 : Fin 2)]).awaiting = some { recordId := 7, index := 1, buffer := 0 } ∧
    findRecord (laneAt .awaiting 2) 7 = some { record7 with state := .sending } ∧
    ((laneAt .awaiting 2).lanes[(0 : Fin 2)]).state = .awaiting ∧ ((laneAt .awaiting 2).lanes[(0 : Fin 2)]).seq = 0 ∧
    ((laneAt .awaiting 2).lanes[(0 : Fin 2)]).buffers[(0 : Fin 2)] = .holding (packet 1 2) ∧
    (packet 1 2).index + 1 = (packet 1 2).total := by decide +kernel

theorem witness_RetryHoldHaltAndStaleVerdicts :
    (partFound (ackMeets 0) (laneAt .awaiting 3) = laneAt .awaiting 3 ∧
      ((laneAt .awaiting 3).lanes[(0 : Fin 2)]).awaiting = some { recordId := 7, index := 1, buffer := 0 } ∧
      findRecord (laneAt .awaiting 3) 7 ≠ none ∧ ((laneAt .awaiting 3).lanes[(0 : Fin 2)]).state = .awaiting ∧
      (1 : Byte).toNat % 4 = 1 ∧ (2 : Byte).toNat % 4 = 2 ∧ (3 : Byte).toNat % 4 = 3) ∧
    (let p := inFlightOf (.data 0) (laneAt .sending 3)
     partFound (ackMeets 0) p = p ∧ (p.lanes[(0 : Fin 2)]).state = .sending ∧ (p.lanes[(0 : Fin 2)]).haltNoted = false) ∧
    (partFound (ackMeets 2) fresh = fresh ∧ (0 : Fin 2).val = (2 : Byte).toNat % 2 ∧ (fresh.lanes[(0 : Fin 2)]).awaiting = none) ∧
    (partFound (ackMeets 2) (laneAt .halted 3) = laneAt .halted 3 ∧ ((laneAt .halted 3).lanes[(0 : Fin 2)]).state = .halted) ∧
    (partFound (ackMeets 2) (laneAt .backoff 3) = laneAt .backoff 3 ∧ ((laneAt .backoff 3).lanes[(0 : Fin 2)]).state = .backoff ∧
      (5 : Byte).toNat % 4 = 1) ∧
    (1 : Fin 2).val = (255 : Byte).toNat % 2 := by decide +kernel

theorem witness_TimerExpiryRetriesOrResends :
    (arbitrated (laneAt .awaiting 3) = laneAt .awaiting 3 ∧ ((laneAt .awaiting 3).lanes[(0 : Fin 2)]).state = .awaiting ∧
      ((laneAt .awaiting 3).lanes[(0 : Fin 2)]).ackTimer ≠ none) ∧
    (arbitrated (laneAt .backoff 3) = laneAt .backoff 3 ∧ ((laneAt .backoff 3).lanes[(0 : Fin 2)]).state = .backoff ∧
      ((laneAt .backoff 3).lanes[(0 : Fin 2)]).backoffTimer ≠ none) ∧
    (fresh.lanes[(0 : Fin 2)]).state ≠ .awaiting ∧ (fresh.lanes[(0 : Fin 2)]).state ≠ .backoff := by decide +kernel

/-- A data packet that is FILLING; a free send buffer with a packet of the current record due, and one with a queued record's header due. -/
theorem witness_StagingEndFillsTheBuffer :
    (let p : Part := { withRecord .sending with lanes := fresh.lanes.set 0 { Lane.reset with
       current := some { recordId := 7, total := 3, next := 2 }, buffers := #v[.filling (packet 1 3), .empty] } }
     arbitrated p = p ∧ (p.lanes[(0 : Fin 2)]).buffers[(0 : Fin 2)] = .filling (packet 1 3) ∧ 1 ≤ (packet 1 3).index ∧
       findRecord p (packet 1 3).recordId = some { record7 with state := .sending }) ∧
    (let p : Part := { withRecord .sending with lanes := fresh.lanes.set 0 { Lane.reset with
       current := some { recordId := 7, total := 3, next := 2 } } }
     (p.lanes[(0 : Fin 2)]).buffers[(0 : Fin 2)] = .empty ∧ (p.lanes[(0 : Fin 2)]).awaiting = none ∧ (2 : Nat) < 3 ∧
       findRecord p 7 = some { record7 with state := .sending }) ∧
    (let p : Part := { withRecord .sealed with lanes := fresh.lanes.set 0 { Lane.reset with queue := [7] } }
     (p.lanes[(0 : Fin 2)]).current = none ∧ (p.lanes[(0 : Fin 2)]).queue = 7 :: [] ∧
       findRecord p 7 = some { record7 with state := .sealed }) ∧
    ((fresh.lanes[(0 : Fin 2)]).queue = [] ∧ (fresh.lanes[(0 : Fin 2)]).buffers[(0 : Fin 2)] = .empty) := by decide +kernel

theorem witness_FrameStartFollowsTheArbiterOrder :
    (inFlightOf .report fresh).lnk.inFlight ≠ none ∧ fresh.lnk.inFlight = none ∧
    (after (.inquire 5) fresh).lnk.responses ≠ [] ∧ (State.reset.part.lnk.responses = [] ∧ State.reset.part.lnk.reports ≠ []) ∧
    (let p := laneAt .ready 3
     p.lnk.responses = [] ∧ p.lnk.reports = [] ∧ p.lnk.inFlight = none ∧ ((announced p).lanes[(0 : Fin 2)]).state = .ready ∧
       (p.lanes[(0 : Fin 2)]).buffers[(0 : Fin 2)] = .holding (packet 1 3) ∧ (0 : Fin 2) = p.lnk.turn) ∧
    (∀ l : Fin 2, ((announced fresh).lanes[l]).state ≠ .ready) ∧ fresh.lnk.finishing = false ∧
    (let p : Part := { fresh with lnk := { fresh.lnk with finishing := true, intake := [{ tag := 5, payload := [0x12] }] } }
     p.lnk.inFlight = none ∧ p.lnk.responses = [] ∧ p.lnk.reports = [] ∧ (∀ l : Fin 2, ((announced p).lanes[l]).state ≠ .ready) ∧
       p.lnk.finishing = true ∧ p.lnk.intake = { tag := 5, payload := [0x12] } :: []) ∧
    (startMeets (meetingLanes (laneAt .ready 3) (.ack 0 0 0)) (laneAt .ready 3) = true ∧
      startMeets (meetingLanes (laneAt .ready 3) (.ack 1 0 0)) (laneAt .ready 3) = false ∧
      startMeets (meetingLanes (laneAt .ready 3) (.status 1)) (laneAt .ready 3) = false) := by decide +kernel

/-- R161: the OK of a command that takes time starts once its execution has ended. -/
theorem test_frame_start_ends_an_execution :
    let p : Part := { fresh with lnk := { fresh.lnk with finishing := true, intake := [{ tag := 5, payload := [0x12] }] } }
    (after .frameStart p).lnk.inFlight.any (fun f => f.bytes == frameBytes 0x20 5 [0x12, 0]) = true ∧
      (after .frameStart p).lnk.intake = [] ∧ (after .frameStart p).lnk.finishing = false := by decide +kernel

theorem witness_FrameCompleteFreesTheLink :
    (arbitrated fresh = fresh ∧ fresh.lnk.inFlight = none) ∧
    (arbitrated (inFlightOf .report fresh) = inFlightOf .report fresh ∧
      (inFlightOf .report fresh).lnk.inFlight = some { cargo := .report, bytes := [0xC3], exchanged := 0 } ∧
      (inFlightOf .report fresh).lnk.transport ≠ .spi ∧ (overSpi (inFlightOf .report fresh)).lnk.transport = .spi) ∧
    (let p := inFlightOf (.data 0) (laneAt .sending 3)
     arbitrated p = p ∧ p.lnk.inFlight = some { cargo := .data 0, bytes := [0xC3], exchanged := 0 } ∧
       (p.lanes[(0 : Fin 2)]).state = .sending ∧ (p.lanes[(0 : Fin 2)]).haltNoted = false) := by decide +kernel

theorem witness_ResetFullTakesEffectAtItsFramesEnd : (arbitrated fresh = fresh ∧ Accepts 2 fresh) ∧
    (let p := inFlightOf (.response true) fresh
     arbitrated p = p ∧ p.lnk.inFlight = some { cargo := .response true, bytes := [0xC3], exchanged := 0 } ∧
       p.lnk.transport ≠ .spi) := by decide +kernel

theorem witness_ResetFlushClearsTheCaptureSide :
    let p := inFlightOf (.data 0) (laneAt .sending 3)
    (partFound (fun _ => true) p = p ∧ Accepts 2 p) ∧
    (partFound (fun _ => true) (laneAt .ready 3) = laneAt .ready 3 ∧ Accepts 2 (laneAt .ready 3)) := by decide +kernel

theorem witness_SpiExchangesBytesAndRaisesAttention :
    ((overSpi fresh).lnk.transport = .spi ∧ fresh.lnk.transport = .uart 0 ∧ arbitrated (overSpi fresh) = overSpi fresh ∧
      partFound (byteMeets 0 (overSpi fresh).lnk.parser) (overSpi fresh) = overSpi fresh ∧
      (overSpi fresh).lnk.inFlight = none) ∧
    (let p := overSpi (inFlightOf .report fresh)
     arbitrated p = p ∧ partFound (byteMeets 0 p.lnk.parser) p = p ∧ p.lnk.transport = .spi ∧ p.lnk.inFlight = some { cargo := .report, bytes := [0xC3], exchanged := 0 } ∧
       p.lnk.parser.state = .hunt ∧ 0 + 1 = ([0xC3] : List Byte).length) := by decide +kernel

/-- Refused frames, one behind a waiting TRIGGER, one that executes; a row of the command table; and a mode byte that names no mode. -/
theorem witness_CommandFrameIsAdmittedOrRefused :
    (partFound (payloadMeets [0x01]) triggered = triggered ∧ triggered.trg.run ≠ none ∧ (4 : Byte) ≠ 0 ∧ ¬ (∃ c ∈ triggered.lnk.intake, c.tag = 4) ∧
      intakeLoad triggered.lnk < 4 ∧ (∃ c ∈ triggered.lnk.intake, c.tag = 3)) ∧
    (partFound (payloadMeets [0x01]) fresh = fresh ∧ arbitrated fresh = fresh ∧ Accepts 4 fresh ∧ commandRow 4 (.reset 0) = some (.resetFull 4) ∧ 2 ≤ (2 : Byte).toNat) := by
  decide +kernel

theorem witness_MessagesFollowTheirTables : (281474976710655 : Nat) ≤ 281474976710655 ∧ (5 : Nat) < 6 := by decide

theorem witness_LinkChecksAnswerWithoutEffect : arbitrated fresh = fresh ∧ Accepts 2 fresh ∧ commandLength 0 = none ∧
    commandLength 0x53 = none ∧ commandLength 0x01 = some 1 ∧ ([0x01, 0] : List Byte).length ≠ 1 ∧ commandLength 0x30 = some 18 := by
  decide +kernel

theorem witness_QueriesAnswerWithoutEffect : arbitrated fresh = fresh ∧ Accepts 2 fresh ∧ (7 : Fin 8).val = (7 : Byte).toNat ∧
    8 ≤ (8 : Byte).toNat ∧ (1 : Fin 2).val = (1 : Byte).toNat ∧ 2 ≤ (2 : Byte).toNat := by decide +kernel

theorem witness_InboundByteDrivesTheParser :
    partFound (byteMeets 0xC3 fresh.lnk.parser) fresh = fresh ∧ fresh.lnk.transport = .uart 0 ∧ fresh.lnk.parser.state = .hunt ∧
    ((parserIn .length [] fresh).lnk.parser.state = .length ∧ (parserIn .length [] fresh).lnk.parser.kept = []) ∧
    (parserIn .length [2] fresh).lnk.parser.kept = [2] ∧ (parserIn .body [3, 0] fresh).lnk.parser.state = .body ∧
    ((parserIn .check [3, 0, 16, 5, 1] fresh).lnk.parser.state = .check ∧
      (parserIn .check [3, 0, 16, 5, 1] fresh).lnk.parser.crcLow = none) ∧
    (let p : Part := { fresh with lnk := { fresh.lnk with
       parser := { state := .check, kept := [3, 0, 16, 5, 1], length := 3, crcLow := some 0xCE, gap := 0 } } }
     partFound (byteMeets 0x3B p.lnk.parser) p = p ∧ crc16 p.lnk.parser.kept = (0x3B : Byte) ++ (0xCE : Byte)) := by decide +kernel

theorem witness_DiscardsCountAndReport :
    (arbitrated (parserIn .body [3, 0] fresh) = parserIn .body [3, 0] fresh ∧
      (parserIn .body [3, 0] fresh).lnk.transport ≠ .spi ∧ (parserIn .body [3, 0] fresh).lnk.parser.state ≠ .hunt) ∧
    (overSpi (parserIn .body [3, 0] fresh)).lnk.transport = .spi ∧ fresh.lnk.parser.state = .hunt := by decide +kernel

theorem witness_FrameBytesHaveTheEffectOfTheFrame : fresh.lnk.transport = .uart 0 ∧ fresh.lnk.parser = Parser.hunting ∧
    (List.replicate 1024 (0 : Byte)).length ≤ 1024 := by decide +kernel

/-- The invariants' statements have hypotheses that a step from the reset state meets: see Obligations.ResetHoldsTheSpecValues for the
whole; the step itself answers a next state. -/
theorem witness_EveryStepKeepsTheMemoriesCanonical : MemoriesCanonical fresh ∧
    ∃ t : State, step { part := fresh, pending := [] } = .next t := ⟨by decide, _, rfl⟩

theorem witness_EveryStepKeepsRecordIdsDistinct : RecordIdsSound fresh ∧
    ∃ t : State, step { part := fresh, pending := [] } = .next t := ⟨by decide, _, rfl⟩

theorem witness_EveryStepKeepsTimersInTheirStates : LaneTimersSound fresh ∧
    ∃ t : State, step { part := fresh, pending := [] } = .next t := ⟨by decide, _, rfl⟩

theorem witness_EveryStepKeepsQueuesWithinCapacity : QueuesWithinCapacity fresh ∧
    ∃ t : State, step { part := fresh, pending := [] } = .next t := ⟨by decide, _, rfl⟩

theorem witness_EveryStepKeepsLocksCountingWindows : LocksCountWindows fresh ∧
    ∃ t : State, step { part := fresh, pending := [] } = .next t := ⟨by decide, _, rfl⟩

theorem witness_EveryStepKeepsPlansAccounted : PlansAccounted fresh ∧
    ∃ t : State, step { part := fresh, pending := [] } = .next t := ⟨by decide, _, rfl⟩

theorem witness_EveryStepConservesTheBlocks : BlocksConserved State.reset.part ∧
    ∃ t : State, step { part := State.reset.part, pending := [.gapExpiry] } = .next t := by
  constructor
  · have h : State.reset.part.records = [] := rfl
    unfold BlocksConserved
    rw [h, List.flatMap_nil, List.append_nil]
    exact List.Perm.of_eq (by simp only [State.reset, Part.atPowerOn, Part.cleared, allBlocks, Config.blockCount])
  · exact ⟨_, rfl⟩

end Sys2Proof.Tests
end

section
/-!
SUPPORT. What a step can do to Record Memory and to history, said once: the memory side of the part, the moves that change it, and that every
step is a sequence of these moves.
-/

namespace Sys2Proof.Machine

/-! ### The memory side of the part -/

/-- The memory side of the part: both memories, the free list, the ID and the chain of each live record, and the record ID counter. -/
structure Storage where
  history : Memory
  blocks : Memory
  freeList : List Nat
  chains : List (Nat × List Nat)
  nextId : Nat

/-- What the part holds on its memory side. -/
def Part.storage (p : Part) : Storage :=
  { history := p.history, blocks := p.blocks, freeList := p.freeList, chains := p.records.map (fun r => (r.id, r.chain))
    nextId := p.nextId }

/-- The moves of the memory side: all that any event does to it. -/
inductive StorageMove : Storage → Storage → Prop where
  /-- A code written into a history ring (R128). -/
  | sample (a : Nat) (code : SampleCode) (st : Storage) :
    StorageMove st { st with history := Memory.writeWord a code st.history }
  /-- A sample frame written into a chain (R3, R71). -/
  | store (chain : List Nat) (w : Nat) (codes : List SampleCode) (st : Storage) :
    StorageMove st { st with blocks := storeWords chain w codes st.blocks }
  /-- An open with a free record slot: the reservation leaves the head of the free list, and the record takes the next free ID (R2, R11, R67). -/
  | opened (id blocks : Nat) (st : Storage) (hslot : st.chains.length < 32)
    (hid : id = freeIdFrom (st.chains.map Prod.fst) (st.chains.length + 1) st.nextId) :
    StorageMove st { st with
      freeList := st.freeList.drop blocks, chains := st.chains ++ [(id, st.freeList.take blocks)], nextId := advanceId id }
  /-- A chain trimmed to its first `n` blocks (R4, R7). -/
  | trimmed (n id : Nat) (chain : List Nat) (older younger : List (Nat × List Nat)) (st : Storage)
    (h : st.chains = older ++ (id, chain) :: younger) :
    StorageMove st { st with
      freeList := st.freeList ++ chain.drop n, chains := older ++ (id, chain.take n) :: younger }
  /-- A record freed (R13). -/
  | freed (id : Nat) (chain : List Nat) (older younger : List (Nat × List Nat)) (st : Storage)
    (h : st.chains = older ++ (id, chain) :: younger) :
    StorageMove st { st with freeList := st.freeList ++ chain, chains := older ++ younger }
  /-- RESET FLUSH (R21). -/
  | flushed (st : Storage) : StorageMove st { st with freeList := allBlocks, chains := [] }
  /-- A device reset (R20). -/
  | cleared (st : Storage) : StorageMove st { st with freeList := allBlocks, chains := [], nextId := 1 }

/-- One memory side comes from another by moves. -/
abbrev StorageMoves : Storage → Storage → Prop :=
  Relation.ReflTransGen StorageMove

/-- What every move keeps, moves keep. -/
theorem StorageMoves.keep {Q : Storage → Prop} (hQ : ∀ a b, StorageMove a b → Q a → Q b) {a b : Storage} (h : StorageMoves a b)
    (ha : Q a) : Q b := by
  induction h with
  | refl => exact ha
  | tail _ hmove ih => exact hQ _ _ hmove ih

/-- An operation that leaves the memory side alone makes no move. -/
theorem StorageMoves.of_eq {a b : Storage} (h : b = a) : StorageMoves a b :=
  h ▸ .refl

/-- A fold of operations that leave the memory side alone leaves it alone. -/
theorem storage_foldl {α : Type} {f : Part → α → Part} (hf : ∀ p a, (f p a).storage = p.storage) (l : List α) (p : Part) :
    (l.foldl f p).storage = p.storage :=
  List.foldlRecOn (motive := fun q => q.storage = p.storage) l f rfl (fun q hq a _ => (hf q a).trans hq)

/-- A fold of operations that make moves makes moves. -/
theorem moves_foldl {α : Type} {f : Part → α → Part} (hf : ∀ p a, StorageMoves p.storage (f p a).storage) (l : List α) (p : Part) :
    StorageMoves p.storage (l.foldl f p).storage :=
  List.foldlRecOn (motive := fun q => StorageMoves p.storage q.storage) l f .refl (fun q hq a _ => hq.trans (hf q a))

/-! ### Operations that leave the memory side alone -/

@[simp] theorem storage_modifyPlan (i : Fin 8) (f : Plan → Plan) (p : Part) : (modifyPlan i f p).storage = p.storage := rfl
@[simp] theorem storage_modifyChannel (c : Fin 8) (f : Channel → Channel) (p : Part) : (modifyChannel c f p).storage = p.storage := rfl
@[simp] theorem storage_modifyDetector (c : Fin 8) (f : Detector → Detector) (p : Part) : (modifyDetector c f p).storage = p.storage := rfl
@[simp] theorem storage_modifyLine (l : Fin 4) (f : ExtLine → ExtLine) (p : Part) : (modifyLine l f p).storage = p.storage := rfl
@[simp] theorem storage_modifyLane (l : Fin 2) (f : Lane → Lane) (p : Part) : (modifyLane l f p).storage = p.storage := rfl
@[simp] theorem storage_setSlot (w : Fin 4) (v : Option Window) (p : Part) : (setSlot w v p).storage = p.storage := rfl
@[simp] theorem storage_detectorUnknown (c : Fin 8) (p : Part) : (detectorUnknown c p).storage = p.storage := rfl
@[simp] theorem storage_queueResponse (r : Response) (p : Part) : (queueResponse r p).storage = p.storage := rfl
@[simp] theorem storage_parserToHunt (p : Part) : (parserToHunt p).storage = p.storage := rfl
@[simp] theorem storage_setParser (x : Parser) (p : Part) : (setParser x p).storage = p.storage := rfl
@[simp] theorem storage_putInFlight (c : Cargo) (bytes : List Byte) (p : Part) : (putInFlight c bytes p).storage = p.storage := rfl
@[simp] theorem storage_exchangeByte (p : Part) : (exchangeByte p).storage = p.storage := rfl

@[simp] theorem storage_postReport (r : Report) (p : Part) : (postReport r p).storage = p.storage := by
  simp [Part.storage]

theorem storage_modifyRecord (id : Nat) (f : Record → Record) (hid : ∀ r, (f r).id = r.id) (hchain : ∀ r, (f r).chain = r.chain)
    (p : Part) : (modifyRecord id f p).storage = p.storage := by
  have h := map_modifyFirst (fun r : Record => (r.id, r.chain)) (fun r => r.id == id) f (fun r => by rw [hid, hchain]) p.records
  simp [Part.storage, modifyRecord, h]

@[simp] theorem storage_withTrg (u : TriggerUnit) (p : Part) : Part.storage { p with trg := u } = p.storage := rfl
@[simp] theorem storage_withLnk (x : Link) (p : Part) : Part.storage { p with lnk := x } = p.storage := rfl

@[simp] theorem storage_beginStaging (l : Fin 2) (p : Part) : (beginStaging l p).storage = p.storage := by
  rw [beginStaging_frame]
  simp [Part.storage, beginStaging_ids]

@[simp] theorem storage_handOff (l : Fin 2) (id : Nat) (p : Part) : (handOff l id p).storage = p.storage := by
  simp [handOff]

@[simp] theorem storage_raiseLocks (set : ChannelSet) (p : Part) : (raiseLocks set p).storage = p.storage := by
  rw [raiseLocks_frame]
  rfl

@[simp] theorem storage_lowerLocks (set : ChannelSet) (p : Part) : (lowerLocks set p).storage = p.storage := by
  rw [lowerLocks_frame]
  rfl

@[simp] theorem storage_planDoneIfIdle (i : Fin 8) (p : Part) : (planDoneIfIdle i p).storage = p.storage := by
  unfold planDoneIfIdle
  split <;> simp

@[simp] theorem storage_haltPlan (i : Fin 8) (reason : PlanHalt) (removed : Nat) (p : Part) :
    (haltPlan i reason removed p).storage = p.storage := by
  simp [haltPlan]

@[simp] theorem storage_expireJob (reason : ExpiryReason) (j : Job) (p : Part) : (expireJob reason j p).storage = p.storage := by
  simp [expireJob]
  rfl

/-! #### The lanes -/

@[simp] theorem storage_endStaging (l b : Fin 2) (p : Part) : (endStaging l b p).storage = p.storage := by
  unfold endStaging
  split <;> simp

@[simp] theorem storage_haltLane (l : Fin 2) (reason : LaneHalt) (p : Part) : (haltLane l reason p).storage = p.storage := by
  simp [haltLane]

@[simp] theorem storage_completeLane (l : Fin 2) (p : Part) : (completeLane l p).storage = p.storage := by
  unfold completeLane
  split
  · simp only [storage_beginStaging]
    split <;> simp
  · rfl

@[simp] theorem storage_retryLane (l : Fin 2) (p : Part) : (retryLane l p).storage = p.storage := by
  simp only [retryLane]
  split <;> simp

@[simp] theorem storage_staleAck (l : Fin 2) (p : Part) : (staleAck l p).storage = p.storage := rfl

@[simp] theorem storage_ackExpiry (l : Fin 2) (p : Part) : (ackExpiry l p).storage = p.storage := by
  unfold ackExpiry
  split <;> simp

@[simp] theorem storage_backoffExpiry (l : Fin 2) (p : Part) : (backoffExpiry l p).storage = p.storage := by
  unfold backoffExpiry
  split <;> simp

@[simp] theorem storage_abandonRecord (l : Fin 2) (id : Nat) (p : Part) : (abandonRecord l id p).storage = p.storage := by
  simp only [abandonRecord]
  split <;> simp

@[simp] theorem storage_clearHalt (l : Fin 2) (p : Part) : (clearHalt l p).storage = p.storage := by
  simp [clearHalt]

@[simp] theorem storage_laneMillisecond (l : Fin 2) (p : Part) : (laneMillisecond l p).storage = p.storage := by
  unfold laneMillisecond
  split
  · split <;> simp
  · split <;> simp
  · rfl

/-! #### The Range Controller and the Trigger Unit -/

@[simp] theorem storage_applyRange (ch : Fin 8) (range : Nat) (once : Bool) (p : Part) :
    (applyRange ch range once p).storage = p.storage := by
  simp [applyRange]

@[simp] theorem storage_endPass (ch : Fin 8) (outcome : PassOutcome) (p : Part) : (endPass ch outcome p).storage = p.storage := by
  simp [endPass]

@[simp] theorem storage_cancelPass (ch : Fin 8) (p : Part) : (cancelPass ch p).storage = p.storage := by
  unfold cancelPass
  split <;> simp

@[simp] theorem storage_trackDecision (ch : Fin 8) (d : SpanDecision) (p : Part) : (trackDecision ch d p).storage = p.storage := by
  unfold trackDecision
  split
  · split <;> simp
  · rfl

@[simp] theorem storage_onceDecision (ch : Fin 8) (d : SpanDecision) (p : Part) : (onceDecision ch d p).storage = p.storage := by
  simp only [onceDecision]
  split
  · split
    · simp
    · split <;> simp
  · rfl

@[simp] theorem storage_endSpan (ch : Fin 8) (p : Part) : (endSpan ch p).storage = p.storage := by
  simp only [endSpan]
  split <;> simp

@[simp] theorem storage_takeCode (ch : Fin 8) (code : SampleCode) (p : Part) : (takeCode ch code p).storage = p.storage := by
  simp only [takeCode]
  split <;> simp

@[simp] theorem storage_spanArrival (ch : Fin 8) (p : Part) : (spanArrival ch p).storage = p.storage := by
  unfold spanArrival
  split <;> simp

@[simp] theorem storage_settleSpans (p : Part) : (settleSpans p).storage = p.storage :=
  storage_foldl (fun p ch => storage_spanArrival ch p) _ p

@[simp] theorem storage_observeTick (codes : Vector SampleCode 8) (p : Part) : (observeTick codes p).storage = p.storage :=
  storage_foldl (fun _ _ => storage_modifyChannel _ _ _) _ p

@[simp] theorem storage_clearLatches (p : Part) : (clearLatches p).storage = p.storage :=
  storage_foldl (fun _ _ => storage_modifyLine _ _ _) _ p

@[simp] theorem storage_readLatches (p : Part) : (readLatches p).storage = p.storage :=
  storage_foldl (fun _ _ => storage_modifyLine _ _ _) _ p

@[simp] theorem storage_judgeDetectors (codes : Vector SampleCode 8) (p : Part) : (judgeDetectors codes p).storage = p.storage := by
  refine storage_foldl (fun q ch => ?_) _ p
  split <;> simp

@[simp] theorem storage_triggerTick (tick : Nat) (codes : Vector SampleCode 8) (p : Part) :
    (triggerTick tick codes p).storage = p.storage := by
  have h : (judgeDetectors codes (readLatches p)).storage = p.storage := by simp
  unfold triggerTick
  generalize judgeDetectors codes (readLatches p) = q at h
  extract_lets
  split
  · exact h
  · exact h

@[simp] theorem storage_applyJudgement (o : Offer) (i : Fin 8) (j : Judgement) (p : Part) :
    (applyJudgement o i j p).storage = p.storage := by
  cases j with
  | ignored => simp [applyJudgement]
  | dropped reason => cases reason <;> simp [applyJudgement]
  | accepted => rfl

@[simp] theorem storage_judgePlan (o : Offer) (acc : Judged) (i : Fin 8) : (judgePlan o acc i).part.storage = acc.part.storage := by
  unfold judgePlan
  split
  · rfl
  · split <;> simp

@[simp] theorem storage_judgeOffer (o : Offer) (p : Part) : (judgeOffer o p).part.storage = p.storage :=
  List.foldlRecOn (motive := fun acc : Judged => acc.part.storage = p.storage) allPlans (judgePlan o) rfl
    (fun acc hacc i _ => (storage_judgePlan o acc i).trans hacc)

/-! #### The link -/

@[simp] theorem storage_linkError (cause : LinkCause) (tag : Option Byte) (p : Part) : (linkError cause tag p).storage = p.storage := by
  rw [linkError, storage_postReport]
  rfl

@[simp] theorem storage_discardFrame (cause : LinkCause) (tag : Option Byte) (p : Part) :
    (discardFrame cause tag p).storage = p.storage := by
  simp [discardFrame]

@[simp] theorem storage_refuseFrame (tag : Byte) (payload : List Byte) (status : Status) (p : Part) :
    (refuseFrame tag payload status p).storage = p.storage := by
  unfold refuseFrame
  split <;> simp

@[simp] theorem storage_answerHead (status : Status) (results : List Byte) (p : Part) :
    (answerHead status results p).storage = p.storage := by
  unfold answerHead
  split <;> rfl

@[simp] theorem storage_answerReset (p : Part) : (answerReset p).storage = p.storage := by
  unfold answerReset
  split <;> rfl

@[simp] theorem storage_applyReply (x : Part × Reply) : (applyReply x).storage = x.1.storage := by
  obtain ⟨p, reply⟩ := x
  cases reply with
  | done status results => exact storage_answerHead status results p
  | waits => rfl
  | takesTime => rfl
  | resets => exact storage_answerReset p

@[simp] theorem storage_gapExpires (p : Part) : (gapExpires p).storage = p.storage := by
  unfold gapExpires
  split
  · split <;> simp
  · rfl

@[simp] theorem storage_csRises (p : Part) : (csRises p).storage = p.storage := by
  unfold csRises
  split
  · split <;> simp
  · rfl

@[simp] theorem storage_millisecond (p : Part) : (millisecond p).storage = p.storage := by
  have h : ∀ q : Part, (gapMillisecond q).storage = q.storage := by
    intro q
    unfold gapMillisecond
    split
    · split
      · rfl
      · split <;> simp
    · rfl
  simp [millisecond, h]

@[simp] theorem storage_startData (l : Fin 2) (k : Packet) (p : Part) : (startData l k p).storage = p.storage := by
  have h : (startLane l k p).storage = p.storage := by simp [startLane]
  exact h

@[simp] theorem storage_startFrame (p : Part) : (startFrame p).storage = p.storage := by
  rcases startFrame_spec p with ⟨h, -⟩ | ⟨r, rest, -, -, h⟩ | ⟨q, rest, -, -, -, h⟩ | ⟨l, k, -, -, -, -, h⟩ <;> rw [h]
  · rfl
  · rfl
  · exact storage_startData l k p

@[simp] theorem storage_announced (p : Part) : (announced p).storage = p.storage := rfl

@[simp] theorem storage_arbitrated (p : Part) : (arbitrated p).storage = p.storage := by
  simp [arbitrated]

@[simp] theorem storage_partFound (lanes : Fin 2 → Bool) (p : Part) : (partFound lanes p).storage = p.storage := by
  unfold partFound
  split <;> simp

@[simp] theorem storage_startAfter (lanes : Fin 2 → Bool) (p q : Part) : (startAfter lanes p q).storage = q.storage := by
  unfold startAfter
  split <;> simp

/-! ### Operations that move the memory side -/

/-- Changing the first match changes the element that `find?` would give. -/
theorem modifyFirst_append {α : Type} {q : α → Bool} {r : α} (hr : q r = true) (f : α → α) (younger : List α) :
    ∀ {older : List α}, (∀ x ∈ older, q x = false) → modifyFirst q f (older ++ r :: younger) = older ++ f r :: younger
  | [], _ => by simp [modifyFirst, hr]
  | a :: older, h => by
    have ha : q a = false := h a List.mem_cons_self
    simp [modifyFirst, ha, modifyFirst_append hr f younger (fun x hx => h x (List.mem_cons_of_mem _ hx))]

/-- Where a found record stands: behind records of other IDs. -/
theorem findRecord_split {p : Part} {id : Nat} {r : Record} (h : findRecord p id = some r) :
    ∃ older younger, p.records = older ++ r :: younger ∧ (r.id == id) = true ∧ ∀ x ∈ older, (x.id == id) = false := by
  obtain ⟨hr, older, younger, hsplit, holder⟩ := List.find?_eq_some_iff_append.1 h
  exact ⟨older, younger, hsplit, hr, fun x hx => by simpa using holder x hx⟩

theorem moves_freeRecord (id : Nat) (p : Part) : StorageMoves p.storage (freeRecord id p).storage := by
  rcases freeRecord_spec id p with ⟨-, h⟩ | ⟨r, hr, h⟩ <;> rw [h]
  obtain ⟨older, younger, hsplit, hid, holder⟩ := findRecord_split hr
  have herase : p.records.eraseP (fun x => x.id == id) = older ++ younger := by
    rw [hsplit, List.eraseP_append_right _ (by simpa using holder), List.eraseP_cons_of_pos (p := fun x : Record => x.id == id) hid]
  have hmove := StorageMove.freed r.id r.chain (older.map fun x => (x.id, x.chain)) (younger.map fun x => (x.id, x.chain)) p.storage
    (by simp [Part.storage, hsplit])
  refine .single ?_
  simpa [Part.storage, herase] using hmove

theorem moves_trimChain (id : Nat) (p : Part) : StorageMoves p.storage (trimChain id p).storage := by
  rcases trimChain_spec id p with ⟨-, h⟩ | ⟨r, hr, h⟩ <;> rw [h]
  obtain ⟨older, younger, hsplit, hid, holder⟩ := findRecord_split hr
  have hmove := StorageMove.trimmed (blocksFor r.words) r.id r.chain (older.map fun x => (x.id, x.chain))
    (younger.map fun x => (x.id, x.chain)) p.storage (by simp [Part.storage, hsplit])
  have hrecords := modifyFirst_append (q := fun x : Record => x.id == id) hid
    (fun r => { r with chain := r.chain.take (blocksFor r.words) }) younger holder
  refine .single ?_
  simpa [Part.storage, modifyRecord, hsplit, hrecords] using hmove

/-- An open needs a free record slot (R62). -/
theorem nextOpen_slotFree {p : Part} {x : Fin 4 × Job × PlanDef × Nat × Nat} (h : nextOpen p = some x) : p.records.length < 32 := by
  unfold nextOpen at h
  split at h
  · split at h
    · simp only at h
      split at h
      · rename_i hfits
        exact hfits.1
      · cases h
    · cases h
  · cases h

theorem moves_openWindow {p : Part} {w : Fin 4} {j : Job} {d : PlanDef} {pre blocks : Nat}
    (h : nextOpen p = some (w, j, d, pre, blocks)) : StorageMoves p.storage (openWindow w j d pre blocks p).storage := by
  have hmove := StorageMove.opened (nextRecordId p) blocks p.storage (by simpa [Part.storage] using nextOpen_slotFree h)
    (by simp [Part.storage, nextRecordId, Function.comp_def])
  refine .single ?_
  simp only [openWindow, storage_setSlot, storage_modifyPlan, storage_raiseLocks]
  simpa [Part.storage, newRecord] using hmove

theorem moves_reexamine (p : Part) : StorageMoves p.storage (reexamine p).storage :=
  reexamine_induct (P := fun q => StorageMoves p.storage q.storage) (fun _ _ _ _ _ _ hopen hq => hq.trans (moves_openWindow hopen)) .refl

theorem moves_freeAndReexamine (id : Nat) (p : Part) : StorageMoves p.storage (freeAndReexamine id p).storage :=
  (moves_freeRecord id p).trans (moves_reexamine _)

/-! #### Windows -/

theorem moves_storeFrame (slot : Fin 4) (w : Window) (tick : Nat) (codes : List SampleCode) (p : Part) :
    StorageMoves p.storage (storeFrame slot w tick codes p).storage := by
  unfold storeFrame
  split
  · rename_i r _
    rw [storage_setSlot, storage_modifyRecord _ (recordWithFrame w tick codes) (fun _ => rfl) (fun _ => rfl)]
    exact .single (StorageMove.store r.chain r.words codes p.storage)
  · exact .refl

theorem moves_copyFrame (slot : Fin 4) (p : Part) : StorageMoves p.storage (copyFrame slot p).storage := by
  unfold copyFrame
  split
  · split
    · split
      · exact moves_storeFrame _ _ _ _ _
      · exact .refl
    · exact .refl
  · exact .refl

@[simp] theorem storage_endCopy (slot : Fin 4) (p : Part) : (endCopy slot p).storage = p.storage := by
  unfold endCopy
  split
  · split <;> simp
  · rfl

theorem moves_copyBeforeLoss (tick : Nat) (slot : Fin 4) (p : Part) : StorageMoves p.storage (copyBeforeLoss tick slot p).storage := by
  unfold copyBeforeLoss
  split
  · split
    · exact moves_copyFrame slot p
    · exact .refl
  · exact .refl

theorem moves_liveTick (tick : Nat) (codes : Vector SampleCode 8) (slot : Fin 4) (p : Part) :
    StorageMoves p.storage (liveTick tick codes slot p).storage := by
  unfold liveTick
  split
  · split
    · simp only
      split
      · exact moves_storeFrame _ _ _ _ _
      · exact .of_eq (storage_setSlot _ _ _)
    · exact .refl
  · exact .refl

theorem moves_sealRecord (slot : Fin 4) (w : Window) (p : Part) : StorageMoves p.storage (sealRecord slot w p).storage := by
  have htrim := moves_trimChain w.recordId (modifyRecord w.recordId (sealedRecord w) p)
  rw [storage_modifyRecord _ (sealedRecord w) (fun _ => rfl) (fun _ => rfl)] at htrim
  refine htrim.trans (StorageMoves.of_eq ?_)
  unfold sealRecord
  extract_lets trimmed lowered closed
  split
  · simp only [storage_handOff, storage_postReport, closed, storage_modifyPlan, storage_setSlot, lowered, storage_lowerLocks, trimmed]
  · simp only [closed, storage_modifyPlan, storage_setSlot, lowered, storage_lowerLocks, trimmed]

theorem moves_sealWindow (completes : Bool) (slot : Fin 4) (p : Part) :
    StorageMoves p.storage (sealWindow completes slot p).storage := by
  unfold sealWindow
  split
  · rename_i w _
    refine ((moves_sealRecord slot w p).trans (StorageMoves.of_eq ?_)).trans (moves_reexamine _)
    split <;> simp
  · exact .refl

theorem moves_sealEnded (slot : Fin 4) (p : Part) : StorageMoves p.storage (sealEnded slot p).storage := by
  unfold sealEnded
  split
  · split
    · exact moves_sealWindow true slot p
    · exact .refl
  · exact .refl

theorem moves_expireByHistory (p : Part) : StorageMoves p.storage (expireByHistory p).storage := by
  unfold expireByHistory
  split
  · exact .refl
  · exact (StorageMoves.of_eq (storage_foldl (fun q j => by simp) _ p)).trans (moves_reexamine _)

/-! #### The Sampler -/

theorem moves_writeHistory (tick : Nat) (codes : Vector SampleCode 8) (p : Part) :
    StorageMoves p.storage (writeHistory tick codes p).storage :=
  moves_foldl (f := fun q ch => { q with
      history := Memory.writeWord (historyAddr ch tick) codes[ch] q.history
      fill := q.fill.set ch.val (min (q.fill[ch] + 1) Config.historyDepth) })
    (fun q ch => .single (.sample (historyAddr ch tick) codes[ch] q.storage)) _ p

@[simp] theorem storage_withSmp (m : Sampler) (p : Part) : Part.storage { p with smp := m } = p.storage := rfl

theorem moves_tickEvent (inputs : Vector Int 8) (p : Part) : StorageMoves p.storage (tickEvent inputs p).storage := by
  unfold tickEvent
  split
  · extract_lets tick settled codes copied written sampled triggered observed
    have hsettled : settled.storage = p.storage := storage_settleSpans p
    have hcopied : StorageMoves settled.storage copied.storage := moves_foldl (fun q w => moves_copyBeforeLoss tick w q) _ _
    have hwritten : StorageMoves copied.storage written.storage := moves_writeHistory tick codes copied
    have hobserved : observed.storage = written.storage := by
      simp only [observed, triggered, sampled, storage_observeTick, storage_triggerTick, storage_withSmp]
    have hlive : StorageMoves observed.storage _ := moves_foldl (fun q w => moves_liveTick tick codes w q) allSlots observed
    exact hsettled ▸ hcopied.trans (hwritten.trans (hobserved ▸ hlive))
  · exact .refl

theorem moves_stopSampler (p : Part) : StorageMoves p.storage (stopSampler p).storage := by
  unfold stopSampler
  extract_lets sampler cleared expired closed halted
  have hcleared : cleared.storage = p.storage := by simp only [cleared, storage_clearLatches, storage_withSmp]
  have hexpired : expired.storage = cleared.storage :=
    storage_foldl (fun q j => storage_expireJob .samplingStopped j q) p.jobs cleared
  have hclosed : StorageMoves expired.storage closed.storage :=
    moves_foldl (fun q w => moves_sealWindow false w q) allSlots expired
  have hhalted : halted.storage = closed.storage := by
    refine storage_foldl (fun q i => ?_) allPlans closed
    split <;> simp
  rw [hexpired, hcleared] at hclosed
  clear_value halted
  rw [← hhalted] at hclosed
  exact hclosed.trans (StorageMoves.of_eq (storage_foldl (fun q ch => storage_cancelPass ch q) allChannels halted))

@[simp] theorem storage_startSampler (p : Part) : (startSampler p).storage = p.storage := by
  unfold startSampler
  extract_lets settled sampler emptied started unknown cleared
  have hsettled : settled.storage = p.storage := storage_settleSpans p
  clear_value settled
  have hemptied : emptied.storage = settled.storage := rfl
  have hstarted : started.storage = emptied.storage :=
    storage_foldl (fun q ch => storage_modifyChannel ch startChannel q) allChannels emptied
  have hunknown : unknown.storage = started.storage := storage_foldl (fun q ch => storage_detectorUnknown ch q) allChannels started
  have hcleared : cleared.storage = unknown.storage := storage_clearLatches unknown
  have h : cleared.storage = p.storage := by rw [hcleared, hunknown, hstarted, hemptied, hsettled]
  clear_value cleared
  exact h

/-! #### Commands -/

theorem moves_flush (p : Part) : StorageMoves p.storage (flush p).storage := by
  unfold flush
  extract_lets emptied plans lanes
  have hplans : plans.storage = emptied.storage := storage_foldl (fun q i => storage_modifyPlan i flushedPlan q) allPlans emptied
  have hlanes : lanes.storage = plans.storage := by simp only [lanes, storage_modifyLane]
  refine .trans (.single (StorageMove.flushed p.storage)) (StorageMoves.of_eq ?_)
  refine (storage_foldl (fun q c => storage_modifyChannel c (fun ch => { ch with lockCount := 0 }) q) allChannels lanes).trans ?_
  rw [hlanes, hplans]
  simp [emptied, Part.storage]

theorem moves_stopAbort (i : Fin 8) (p : Part) : StorageMoves p.storage (stopAbort i p).storage := by
  unfold stopAbort
  extract_lets removed q
  have hq : q.storage = p.storage := rfl
  split
  · exact ((hq ▸ moves_sealWindow false _ q).trans (StorageMoves.of_eq (storage_haltPlan _ _ _ _))).trans (moves_reexamine _)
  · split
    · exact .of_eq ((storage_haltPlan _ _ _ _).trans hq)
    · exact (StorageMoves.of_eq ((storage_haltPlan _ _ _ _).trans hq)).trans (moves_reexamine _)

@[simp] theorem storage_setRange (ch : Fin 8) (range : Nat) (p : Part) : (setRange ch range p).storage = p.storage := by
  simp [setRange]

@[simp] theorem storage_setRangeMode (ch : Fin 8) (mode : RangeMode) (p : Part) : (setRangeMode ch mode p).storage = p.storage := by
  simp [setRangeMode]

@[simp] theorem storage_startPlan (i : Fin 8) (d : PlanDef) (p : Part) : (startPlan i d p).storage = p.storage := rfl

@[simp] theorem storage_stopGraceful (i : Fin 8) (p : Part) : (stopGraceful i p).storage = p.storage := by
  unfold stopGraceful
  split <;> simp

@[simp] theorem storage_withdrawQueued (l : Fin 2) (id : Nat) (p : Part) : (withdrawQueued l id p).storage = p.storage := rfl

@[simp] theorem refuse_fst (status : Status) (p : Part) : (refuse status p).1 = p := rfl
@[simp] theorem taken_fst (p : Part) : (taken p).1 = p := rfl
@[simp] theorem takenInTime_fst (p : Part) : (takenInTime p).1 = p := rfl
@[simp] theorem answer_fst (results : List Byte) (p : Part) : (answer results p).1 = p := rfl

theorem moves_runReset (mode : Byte) (p : Part) : StorageMoves p.storage (runReset mode p).1.storage := by
  unfold runReset
  split
  · exact .refl
  · exact moves_flush p
  · exact .refl

@[simp] theorem storage_runSamplingSet (rate : Byte) (channels : BitVec 16) (p : Part) :
    (runSamplingSet rate channels p).1.storage = p.storage := by
  unfold runSamplingSet
  repeat' split
  all_goals simp

@[simp] theorem storage_runSamplingStart (p : Part) : (runSamplingStart p).1.storage = p.storage := by
  unfold runSamplingStart
  split <;> simp

theorem moves_runSamplingStop (p : Part) : StorageMoves p.storage (runSamplingStop p).1.storage := by
  unfold runSamplingStop
  split
  · rw [takenInTime_fst]
    exact moves_stopSampler p
  · exact .refl

@[simp] theorem storage_runRangeSet (channel range : Byte) (p : Part) : (runRangeSet channel range p).1.storage = p.storage := by
  unfold runRangeSet
  repeat' split
  all_goals simp

@[simp] theorem storage_runRangeMode (channel mode : Byte) (p : Part) : (runRangeMode channel mode p).1.storage = p.storage := by
  unfold runRangeMode
  repeat' split
  all_goals simp

@[simp] theorem storage_runChannelGet (channel : Byte) (p : Part) : (runChannelGet channel p).1.storage = p.storage := by
  unfold runChannelGet
  split <;> simp

@[simp] theorem storage_runExtlineSet (line enabled edge : Byte) (p : Part) :
    (runExtlineSet line enabled edge p).1.storage = p.storage := by
  unfold runExtlineSet
  split <;> simp

@[simp] theorem storage_runDetectorSet (channel enabled : Byte) (threshold hysteresis : BitVec 16) (direction : Byte) (p : Part) :
    (runDetectorSet channel enabled threshold hysteresis direction p).1.storage = p.storage := by
  unfold runDetectorSet
  repeat' split
  all_goals simp

@[simp] theorem storage_runTrigger (mask : Byte) (p : Part) : (runTrigger mask p).1.storage = p.storage := by
  unfold runTrigger
  repeat' split
  all_goals simp

@[simp] theorem storage_runPlanDefine (plan : Byte) (args : PlanArgs) (p : Part) :
    (runPlanDefine plan args p).1.storage = p.storage := by
  unfold runPlanDefine
  repeat' split
  all_goals simp

@[simp] theorem storage_runPlanClear (plan : Byte) (p : Part) : (runPlanClear plan p).1.storage = p.storage := by
  unfold runPlanClear
  repeat' split
  all_goals simp

@[simp] theorem storage_runPlanStart (plan : Byte) (p : Part) : (runPlanStart plan p).1.storage = p.storage := by
  unfold runPlanStart
  repeat' split
  all_goals simp

theorem moves_runPlanStop (plan mode : Byte) (p : Part) : StorageMoves p.storage (runPlanStop plan mode p).1.storage := by
  unfold runPlanStop
  split
  · split
    · exact .of_eq (storage_stopGraceful _ p)
    · exact .refl
  · split
    · exact moves_stopAbort _ p
    · exact .refl
  · exact .refl

@[simp] theorem storage_runPlanGet (plan : Byte) (p : Part) : (runPlanGet plan p).1.storage = p.storage := by
  unfold runPlanGet
  split <;> simp

theorem moves_runRecordDiscard (id : BitVec 16) (p : Part) : StorageMoves p.storage (runRecordDiscard id p).1.storage := by
  unfold runRecordDiscard
  split
  · exact .refl
  · rename_i r _
    split
    · exact .refl
    · exact moves_freeAndReexamine r.id (withdrawQueued r.lane r.id p)
    · exact (StorageMoves.of_eq (storage_abandonRecord r.lane r.id p)).trans (moves_freeAndReexamine r.id _)
    · exact moves_freeAndReexamine r.id p

theorem moves_runRecordRelease (id : BitVec 16) (p : Part) : StorageMoves p.storage (runRecordRelease id p).1.storage := by
  unfold runRecordRelease
  split
  · exact .refl
  · rename_i r _
    split
    · exact moves_freeAndReexamine r.id p
    · exact .refl

@[simp] theorem storage_runRecordReplay (id : BitVec 16) (p : Part) : (runRecordReplay id p).1.storage = p.storage := by
  unfold runRecordReplay
  split
  · rfl
  · split
    · rw [takenInTime_fst, storage_handOff, storage_modifyRecord _ replayedRecord (fun _ => rfl) (fun _ => rfl)]
    · rfl

@[simp] theorem storage_runLaneSet (lane k : Byte) (ackTimeout backoff : BitVec 16) (retryLimit : Byte) (p : Part) :
    (runLaneSet lane k ackTimeout backoff retryLimit p).1.storage = p.storage := by
  unfold runLaneSet
  repeat' split
  all_goals simp

@[simp] theorem storage_runLaneClearHalt (lane : Byte) (p : Part) : (runLaneClearHalt lane p).1.storage = p.storage := by
  unfold runLaneClearHalt
  repeat' split
  all_goals simp

@[simp] theorem storage_runLaneGet (lane : Byte) (p : Part) : (runLaneGet lane p).1.storage = p.storage := by
  unfold runLaneGet
  split <;> simp

/-- A command moves the memory side by its owner's rule alone. -/
theorem moves_runCommand (c : Command) (p : Part) : StorageMoves p.storage (runCommand c p).1.storage := by
  cases c with
  | inquire => exact .refl
  | status => exact .refl
  | reset mode => exact moves_runReset mode p
  | samplingSet rate channels => exact .of_eq (storage_runSamplingSet rate channels p)
  | samplingStart => exact .of_eq (storage_runSamplingStart p)
  | samplingStop => exact moves_runSamplingStop p
  | rangeSet channel range => exact .of_eq (storage_runRangeSet channel range p)
  | rangeMode channel mode => exact .of_eq (storage_runRangeMode channel mode p)
  | channelGet channel => exact .of_eq (storage_runChannelGet channel p)
  | extlineSet line enabled edge => exact .of_eq (storage_runExtlineSet line enabled edge p)
  | detectorSet channel enabled threshold hysteresis direction => exact .of_eq (storage_runDetectorSet _ _ _ _ _ p)
  | trigger mask => exact .of_eq (storage_runTrigger mask p)
  | planDefine plan definition => exact .of_eq (storage_runPlanDefine plan definition p)
  | planClear plan => exact .of_eq (storage_runPlanClear plan p)
  | planStart plan => exact .of_eq (storage_runPlanStart plan p)
  | planStop plan mode => exact moves_runPlanStop plan mode p
  | planGet plan => exact .of_eq (storage_runPlanGet plan p)
  | recordList => exact .refl
  | recordDiscard id => exact moves_runRecordDiscard id p
  | recordRelease id => exact moves_runRecordRelease id p
  | recordReplay id => exact .of_eq (storage_runRecordReplay id p)
  | laneSet lane k ackTimeout backoff retryLimit => exact .of_eq (storage_runLaneSet _ _ _ _ _ p)
  | laneClearHalt lane => exact .of_eq (storage_runLaneClearHalt lane p)
  | laneGet lane => exact .of_eq (storage_runLaneGet lane p)

theorem moves_runPayload (payload : List Byte) (p : Part) : StorageMoves p.storage (runPayload payload p).1.storage := by
  unfold runPayload
  split
  · exact .refl
  · exact .refl
  · exact moves_runCommand _ p

theorem moves_drain (p : Part) : StorageMoves p.storage (drain p).storage :=
  drain_induct (P := fun q => StorageMoves p.storage q.storage)
    (fun c _ q _ _ hq => (hq.trans (moves_runPayload c.payload q)).trans (StorageMoves.of_eq (storage_applyReply _))) .refl

theorem moves_finishExecution (p : Part) : StorageMoves p.storage (finishExecution p).storage := by
  have hanswered : (answerHead .ok [] { p with lnk := { p.lnk with finishing := false } }).storage = p.storage := by simp
  exact hanswered ▸ moves_drain _

theorem moves_endTrigger (status : Status) (results : List Byte) (p : Part) :
    StorageMoves p.storage (endTrigger status results p).storage := by
  have hanswered : (answerHead status results { p with trg := { p.trg with run := none } }).storage = p.storage := by simp
  exact hanswered ▸ moves_drain _

theorem moves_takeCommand (tag : Byte) (payload : List Byte) (p : Part) :
    StorageMoves p.storage (takeCommand tag payload p).storage := by
  unfold takeCommand
  split
  · exact .of_eq (storage_refuseFrame _ _ _ _)
  · split
    · exact .of_eq (storage_refuseFrame _ _ _ _)
    · split
      · exact .of_eq (storage_refuseFrame _ _ _ _)
      · exact moves_drain { p with lnk := { p.lnk with intake := p.lnk.intake ++ [{ tag := tag, payload := payload }] } }

theorem moves_commandArrives (tag : Byte) (payload : List Byte) (p : Part) :
    StorageMoves p.storage (commandArrives tag payload p).storage :=
  moves_takeCommand tag payload (parserToHunt p)

theorem moves_hostCommand (tag : Byte) (c : Command) (p : Part) : StorageMoves p.storage (hostCommand tag c p).storage :=
  moves_commandArrives tag (encodeCommand c) p

/-! #### The lanes' verdicts, the link and the offers -/

theorem moves_completeDelivery (l : Fin 2) (id : Nat) (p : Part) : StorageMoves p.storage (completeDelivery l id p).storage := by
  unfold completeDelivery
  extract_lets counted
  have hcounted : counted.storage = p.storage := storage_modifyLane _ _ _
  rw [← hcounted]
  clear_value counted
  split
  · split
    · exact .of_eq (storage_modifyRecord id (fun r => { r with state := .delivered }) (fun _ => rfl) (fun _ => rfl) counted)
    · exact moves_freeAndReexamine id counted
  · exact .refl

theorem moves_acceptPacket (l : Fin 2) (a : Awaiting) (p : Part) : StorageMoves p.storage (acceptPacket l a p).storage := by
  unfold acceptPacket
  extract_lets final settled completed
  rw [storage_beginStaging, storage_modifyLane]
  have hsettled : settled.storage = p.storage := storage_modifyLane _ _ _
  rw [← hsettled]
  simp only [completed]
  split
  · exact moves_completeDelivery l a.recordId settled
  · exact .refl

theorem moves_verdictEffect (l : Fin 2) (a : Awaiting) (v : Verdict) (p : Part) :
    StorageMoves p.storage (verdictEffect l a v p).storage := by
  have hstale : StorageMoves p.storage (staleAck l p).storage := .refl
  have hnoted : StorageMoves p.storage (modifyLane l (fun ln => { ln with haltNoted := true }) p).storage := .refl
  have hheld : StorageMoves p.storage (modifyLane l heldLane p).storage := .refl
  have hretry : StorageMoves p.storage (retryLane l p).storage := .of_eq (storage_retryLane l p)
  have hhalt : StorageMoves p.storage (haltLane l .host p).storage := .of_eq (storage_haltLane l .host p)
  have haccept := moves_acceptPacket l a p
  unfold verdictEffect
  split <;> (try split) <;> assumption

theorem moves_takeAck (lane seq verdict : Byte) (p : Part) : StorageMoves p.storage (takeAck lane seq verdict p).storage := by
  unfold takeAck
  extract_lets l
  split
  · exact moves_verdictEffect l _ _ p
  · exact .refl

theorem moves_ackArrives (lane seq verdict : Byte) (p : Part) : StorageMoves p.storage (ackArrives lane seq verdict p).storage :=
  moves_takeAck lane seq verdict (parserToHunt p)

theorem moves_judgeKind (kind tag : Byte) (payload : List Byte) (p : Part) :
    StorageMoves p.storage (judgeKind kind tag payload p).storage := by
  unfold judgeKind
  split
  · exact moves_commandArrives tag payload p
  · split
    · split
      · exact moves_ackArrives _ _ _ p
      · exact .of_eq (storage_discardFrame _ _ p)
    · exact .of_eq (storage_discardFrame _ _ p)

theorem moves_judgeFrame (kept : List Byte) (crcLow crcHigh : Byte) (p : Part) :
    StorageMoves p.storage (judgeFrame kept crcLow crcHigh p).storage := by
  unfold judgeFrame
  split
  · split
    · exact moves_judgeKind _ _ _ p
    · exact .of_eq (storage_discardFrame _ _ p)
  · exact .of_eq (storage_discardFrame _ _ p)

@[simp] theorem storage_takeLengthByte (b : Byte) (x : Parser) (p : Part) : (takeLengthByte b x p).storage = p.storage := by
  unfold takeLengthByte
  split
  · rfl
  · split <;> simp

theorem moves_takeCheckByte (b : Byte) (x : Parser) (p : Part) : StorageMoves p.storage (takeCheckByte b x p).storage := by
  unfold takeCheckByte
  split
  · exact .refl
  · exact moves_judgeFrame _ _ b p

theorem moves_parseByte (b : Byte) (p : Part) : StorageMoves p.storage (parseByte b p).storage := by
  unfold parseByte
  split
  · split <;> exact .refl
  · exact .of_eq (storage_takeLengthByte b _ p)
  · exact .refl
  · exact moves_takeCheckByte b _ p

theorem moves_deviceReset (cause : ResetCause) (pins : ResetPins) (p : Part) :
    StorageMoves p.storage (deviceReset cause pins p).storage := by
  unfold deviceReset
  rw [storage_postReport]
  refine .single ?_
  simpa [Part.storage, Part.cleared] using StorageMove.cleared p.storage

theorem moves_cargoArrived (pins : ResetPins) (cargo : Cargo) (p : Part) :
    StorageMoves p.storage (cargoArrived pins cargo p).storage := by
  unfold cargoArrived
  split
  · exact moves_deviceReset .command pins p
  · exact .refl
  · exact .refl
  · exact .of_eq (storage_completeLane _ p)

theorem moves_completeFrame (pins : ResetPins) (p : Part) : StorageMoves p.storage (completeFrame pins p).storage := by
  unfold completeFrame
  split
  · split
    · exact moves_cargoArrived pins _ { p with lnk := { p.lnk with inFlight := none } }
    · exact .refl
  · exact .refl

theorem moves_byteArrives (b : Byte) (pins : ResetPins) (p : Part) : StorageMoves p.storage (byteArrives b pins p).storage := by
  unfold byteArrives
  split
  · exact moves_parseByte b p
  · exact (moves_parseByte b (exchangeByte p)).trans (moves_completeFrame pins _)

theorem moves_frameStarts (p : Part) : StorageMoves p.storage (frameStarts p).storage := by
  unfold frameStarts
  split
  · rw [storage_arbitrated]
    exact moves_finishExecution p
  · exact .refl

theorem moves_handleOffer (o : Offer) (p : Part) : StorageMoves p.storage (handleOffer o p).storage := by
  unfold handleOffer
  extract_lets j examined
  have hjudged : j.part.storage = p.storage := storage_judgeOffer o p
  have hexamined : StorageMoves p.storage examined.storage := by
    rw [← hjudged]
    simp only [examined]
    split
    · exact .refl
    · exact moves_reexamine j.part
  split
  · exact hexamined.trans (moves_endTrigger _ _ _)
  · exact hexamined

theorem moves_takeOffer (p : Part) : StorageMoves p.storage (takeOffer p).storage := by
  unfold takeOffer
  split
  · exact .refl
  · rename_i o rest _
    exact moves_handleOffer o { p with trg := { p.trg with offers := rest } }

theorem moves_tickLimitStop (p : Part) : StorageMoves p.storage (tickLimitStop p).storage := by
  unfold tickLimitStop
  split
  · have hstopped : StorageMoves p.storage (postReport (.samplerStopped Config.lastTick) (stopSampler p)).storage := by
      rw [storage_postReport]
      exact moves_stopSampler p
    extract_lets stopped
    split
    · exact hstopped.trans (moves_endTrigger _ _ _)
    · exact hstopped
  · exact .refl

theorem moves_elapse (p : Part) : StorageMoves p.storage (elapse p).storage := by
  unfold elapse
  split
  · exact moves_finishExecution p
  · exact .of_eq (storage_millisecond p)

/-! ### Every step is a sequence of moves -/

theorem moves_onPart {f : Part → Part} (hf : ∀ p, StorageMoves p.storage (f p).storage) {s t : State} (h : onPart f s = .next t) :
    StorageMoves s.part.storage t.part.storage := by
  rw [onPart_next h]
  exact hf s.part

theorem moves_onEvent {f : Part → Part} (hf : ∀ p, StorageMoves p.storage (f p).storage) {s t : State} (h : onEvent f s = .next t) :
    StorageMoves s.part.storage t.part.storage :=
  moves_onPart (fun p => (StorageMoves.of_eq (storage_arbitrated p)).trans (hf _)) h

theorem moves_onMeeting {lanes : Fin 2 → Bool} {f : Part → Part} (hf : ∀ p, StorageMoves p.storage (f p).storage) {s t : State}
    (h : onMeeting lanes f s = .next t) : StorageMoves s.part.storage t.part.storage :=
  moves_onPart (fun p => ((StorageMoves.of_eq (storage_partFound lanes p)).trans (hf _)).trans
    (StorageMoves.of_eq (storage_startAfter lanes p _))) h

theorem moves_exec {i : Instr} {s t : State} (h : exec i s = .next t) : StorageMoves s.part.storage t.part.storage := by
  cases i with
  | powerOn pins => exact moves_onPart (moves_deviceReset .power pins) h
  | resetPin pins => exact moves_onPart (moves_deviceReset .pin pins) h
  | extEdge line level => exact moves_onEvent (fun p => .of_eq (storage_modifyLine line _ p)) h
  | tickEvent inputs => exact moves_onEvent (moves_tickEvent inputs) h
  | spanEnd channel => exact moves_onEvent (fun p => .of_eq (storage_spanArrival channel p)) h
  | tickLimitStop => exact moves_onEvent moves_tickLimitStop h
  | offer => exact moves_onEvent moves_takeOffer h
  | jobExpiry => exact moves_onEvent moves_expireByHistory h
  | copyEnd slot => exact moves_onEvent (fun p => .of_eq (storage_endCopy slot p)) h
  | windowSeal slot => exact moves_onEvent (moves_sealEnded slot) h
  | stagingEnd lane buffer => exact moves_onEvent (fun p => .of_eq (storage_endStaging lane buffer p)) h
  | frameStart => exact moves_onEvent moves_frameStarts h
  | frameComplete pins => exact moves_onEvent (moves_completeFrame pins) h
  | ack lane seq verdict => exact moves_onMeeting (moves_ackArrives lane seq verdict) h
  | ackTimerExpiry lane => exact moves_onEvent (fun p => .of_eq (storage_ackExpiry lane p)) h
  | backoffTimerExpiry lane => exact moves_onEvent (fun p => .of_eq (storage_backoffExpiry lane p)) h
  | commandFrame tag payload => exact moves_onMeeting (moves_commandArrives tag payload) h
  | frameDiscard fault tag => exact moves_onEvent (fun p => .of_eq (storage_discardFrame _ tag p)) h
  | gapExpiry => exact moves_onEvent (fun p => .of_eq (storage_gapExpires p)) h
  | csRise => exact moves_onEvent (fun p => .of_eq (storage_csRises p)) h
  | unknownCommand tag payload => exact moves_onMeeting (moves_commandArrives tag payload) h
  | resetFlush tag => exact moves_onMeeting (moves_hostCommand tag _) h
  | recordDiscard tag id => exact moves_onMeeting (moves_hostCommand tag _) h
  | inboundByte arrival => exact moves_onMeeting (moves_byteArrives arrival.value arrival.pins) h
  | catchUpCopyFrame slot => exact moves_onEvent (moves_copyFrame slot) h
  | _ => exact moves_onEvent (moves_hostCommand _ _) h

/-- What a step can do to Record Memory and to history: a sequence of the moves, and nothing else. -/
theorem moves_step {s t : State} (h : step s = .next t) : StorageMoves s.part.storage t.part.storage := by
  unfold step at h
  split at h
  · rename_i c rest _
    exact moves_exec (s := { s with pending := rest }) h
  · exact moves_onEvent moves_elapse h

end Sys2Proof.Machine
end

section
/-!
SUPPORT. The three invariants of Record Memory and of history: every move keeps them, so every step does; and the state after reset, which
satisfies them.
-/

namespace Sys2Proof.Machine

/-! ### Record IDs (R11) -/

theorem advanceId_range {n : Nat} (h : 1 ≤ n ∧ n ≤ 65535) : 1 ≤ advanceId n ∧ advanceId n ≤ 65535 := by
  unfold advanceId Config.maxRecordId
  split <;> omega

/-- The counter advanced k times, counted on a circle of 65,535 IDs. -/
theorem advanceId_iterate {n : Nat} (h : 1 ≤ n ∧ n ≤ 65535) (k : Nat) : advanceId^[k] n = (n - 1 + k) % 65535 + 1 := by
  induction k with
  | zero =>
    show n = _
    omega
  | succ k ih =>
    rw [Function.iterate_succ_apply', ih]
    unfold advanceId Config.maxRecordId
    split <;> omega

theorem freeIdFrom_range (live : List Nat) : ∀ (fuel : Nat) {n : Nat}, 1 ≤ n ∧ n ≤ 65535 →
    1 ≤ freeIdFrom live fuel n ∧ freeIdFrom live fuel n ≤ 65535
  | 0, _, h => h
  | fuel + 1, n, h => by
    unfold freeIdFrom
    split
    · exact freeIdFrom_range live fuel (advanceId_range h)
    · exact h

/-- The search ends at an ID that is not live, unless all of its tries were live. -/
theorem freeIdFrom_spec (live : List Nat) : ∀ (fuel n : Nat),
    freeIdFrom live fuel n ∉ live ∨ ∀ k < fuel, advanceId^[k] n ∈ live
  | 0, _ => .inr (fun _ h => absurd h (Nat.not_lt_zero _))
  | fuel + 1, n => by
    unfold freeIdFrom
    split
    · rename_i hn
      refine (freeIdFrom_spec live fuel (advanceId n)).imp_right (fun hall k hk => ?_)
      cases k with
      | zero => simpa using hn
      | succ k => exact hall k (Nat.lt_of_succ_lt_succ hk)
    · rename_i hn
      exact .inl (by simpa using hn)

/-- One try more than there are live records finds a free ID, as long as there are fewer live records than IDs. -/
theorem freeIdFrom_fresh {live : List Nat} {n : Nat} (hn : 1 ≤ n ∧ n ≤ 65535) (hlive : live.length < 65535) :
    freeIdFrom live (live.length + 1) n ∉ live := by
  refine (freeIdFrom_spec live (live.length + 1) n).resolve_right (fun hall => ?_)
  have htries : ((List.range (live.length + 1)).map (fun k => advanceId^[k] n)).Nodup := by
    refine List.Nodup.map_on (fun i hi j hj hij => ?_) List.nodup_range
    rw [List.mem_range] at hi hj
    rw [advanceId_iterate hn, advanceId_iterate hn] at hij
    omega
  have hsub : (List.range (live.length + 1)).map (fun k => advanceId^[k] n) ⊆ live := by
    intro x hx
    obtain ⟨k, hk, rfl⟩ := List.mem_map.1 hx
    exact hall k (List.mem_range.1 hk)
  have hcount := (List.subperm_of_subset htries hsub).length_le
  simp at hcount

/-! ### The invariants on the memory side -/

/-- Every block is on the free list or in one chain (R1). -/
def Storage.Conserved (st : Storage) : Prop :=
  (st.freeList ++ st.chains.flatMap Prod.snd).Perm (List.range 1024)

/-- Both memories have the canonical form. -/
def Storage.Canonical (st : Storage) : Prop :=
  Memory.wf st.history ∧ Memory.wf st.blocks

/-- At most 32 live records, with distinct IDs in 1..65,535, as is the counter (R8, R11). -/
def Storage.IdsSound (st : Storage) : Prop :=
  (st.chains.map Prod.fst).Nodup ∧ (∀ id ∈ st.chains.map Prod.fst, 1 ≤ id ∧ id ≤ 65535) ∧ st.chains.length ≤ 32 ∧
    1 ≤ st.nextId ∧ st.nextId ≤ 65535

theorem blocksConserved_iff (p : Part) : BlocksConserved p ↔ p.storage.Conserved := by
  unfold BlocksConserved Storage.Conserved
  simp [Part.storage, List.flatMap_map]

theorem memoriesCanonical_iff (p : Part) : MemoriesCanonical p ↔ p.storage.Canonical := Iff.rfl

theorem recordIdsSound_iff (p : Part) : RecordIdsSound p ↔ p.storage.IdsSound := by
  unfold RecordIdsSound Storage.IdsSound
  simp [Part.storage, Function.comp_def]

/-- A free list of all the blocks beside no chain conserves them. -/
theorem conserved_empty (st : Storage) (n : Nat) : Storage.Conserved { st with freeList := allBlocks, chains := [], nextId := n } := by
  unfold Storage.Conserved allBlocks Config.blockCount
  simp

/-- Every move takes blocks from one place to another. -/
theorem StorageMove.conserved {a b : Storage} (h : StorageMove a b) (ha : a.Conserved) : b.Conserved := by
  cases h with
  | sample => exact ha
  | store => exact ha
  | opened id blocks _ hslot hid =>
    refine .trans ?_ ha
    have hreserved : (a.freeList.drop blocks ++ a.freeList.take blocks).Perm a.freeList :=
      List.perm_append_comm.trans (.of_eq (List.take_append_drop _ _))
    have hlast : (a.chains.flatMap Prod.snd ++ a.freeList.take blocks).Perm (a.freeList.take blocks ++ a.chains.flatMap Prod.snd) :=
      List.perm_append_comm
    have hall := (hlast.append_left (a.freeList.drop blocks)).trans
      (.trans (.of_eq (List.append_assoc _ _ _).symm) (hreserved.append_right _))
    simpa using hall
  | trimmed n id chain older younger _ hsplit =>
    refine .trans ?_ ha
    rw [hsplit]
    have hcut : (chain.drop n ++ (older.flatMap Prod.snd ++ chain.take n)).Perm (older.flatMap Prod.snd ++ chain) := by
      refine List.perm_append_comm.trans (.of_eq ?_)
      rw [List.append_assoc, List.take_append_drop]
    simpa using (hcut.append_right (younger.flatMap Prod.snd)).append_left a.freeList
  | freed id chain older younger _ hsplit =>
    refine .trans ?_ ha
    rw [hsplit]
    have hback : (chain ++ older.flatMap Prod.snd).Perm (older.flatMap Prod.snd ++ chain) := List.perm_append_comm
    simpa using (hback.append_right (younger.flatMap Prod.snd)).append_left a.freeList
  | flushed => exact conserved_empty a a.nextId
  | cleared => exact conserved_empty a 1

/-- Every move writes the memories by canonical writes alone. -/
theorem StorageMove.canonical {a b : Storage} (h : StorageMove a b) (ha : a.Canonical) : b.Canonical := by
  obtain ⟨hhistory, hblocks⟩ := ha
  cases h with
  | sample address code => exact ⟨Memory.writeWord_wf address code hhistory, hblocks⟩
  | store chain w codes => exact ⟨hhistory, storeWords_wf chain codes w hblocks⟩
  | opened => exact ⟨hhistory, hblocks⟩
  | trimmed => exact ⟨hhistory, hblocks⟩
  | freed => exact ⟨hhistory, hblocks⟩
  | flushed => exact ⟨hhistory, hblocks⟩
  | cleared => exact ⟨hhistory, hblocks⟩

/-- Every move that adds a record gives it a fresh ID, in a free slot. -/
theorem StorageMove.idsSound {a b : Storage} (h : StorageMove a b) (ha : a.IdsSound) : b.IdsSound := by
  obtain ⟨hnodup, hrange, hlength, hnext⟩ := id ha
  cases h with
  | sample => exact ha
  | store => exact ha
  | opened id blocks _ hslot hid =>
    have hfresh : id ∉ a.chains.map Prod.fst := by
      have h := freeIdFrom_fresh (live := a.chains.map Prod.fst) hnext (by rw [List.length_map]; omega)
      rwa [List.length_map, ← hid] at h
    have hidRange : 1 ≤ id ∧ id ≤ 65535 := hid ▸ freeIdFrom_range _ _ hnext
    refine ⟨?_, ?_, ?_, advanceId_range hidRange⟩
    · rw [List.map_append]
      exact List.nodup_append_comm.1 (List.nodup_cons.2 ⟨hfresh, hnodup⟩)
    · rw [List.map_append]
      intro x hx
      rcases List.mem_append.1 hx with hx | hx
      · exact hrange x hx
      · exact (List.mem_singleton.1 hx) ▸ hidRange
    · rw [List.length_append, List.length_singleton]
      omega
  | trimmed n id chain older younger _ hsplit =>
    rw [hsplit] at hnodup hrange hlength
    refine ⟨?_, ?_, ?_, hnext⟩
    · simpa using hnodup
    · simpa using hrange
    · simpa using hlength
  | freed id chain older younger _ hsplit =>
    have hsub : (older ++ younger).Sublist a.chains := hsplit ▸ (List.sublist_cons_self _ _).append_left older
    exact ⟨hnodup.sublist (hsub.map _), fun x hx => hrange x ((hsub.map _).subset hx), hsub.length_le.trans hlength, hnext⟩
  | flushed => exact ⟨List.nodup_nil, (fun _ h => nomatch h), Nat.zero_le _, hnext⟩
  | cleared => exact ⟨List.nodup_nil, (fun _ h => nomatch h), Nat.zero_le _, le_refl 1, by simp⟩

/-! ### The statements -/

/-- Settles O54: every step is a sequence of moves, and every move keeps each block in one place. -/
theorem everyStepConservesTheBlocks : Obligations.EveryStepConservesTheBlocks := by
  intro s t hstep hs
  rw [blocksConserved_iff] at hs ⊢
  exact (moves_step hstep).keep (fun _ _ => StorageMove.conserved) hs

/-- Settles O55: every step is a sequence of moves, and every move writes the memories canonically. -/
theorem everyStepKeepsTheMemoriesCanonical : Obligations.EveryStepKeepsTheMemoriesCanonical := by
  intro s t hstep hs
  rw [memoriesCanonical_iff] at hs ⊢
  exact (moves_step hstep).keep (fun _ _ => StorageMove.canonical) hs

/-- Settles O56: every step is a sequence of moves, and the one move that adds a record takes a free slot and a fresh ID. -/
theorem everyStepKeepsRecordIdsDistinct : Obligations.EveryStepKeepsRecordIdsDistinct := by
  intro s t hstep hs
  rw [recordIdsSound_iff] at hs ⊢
  exact (moves_step hstep).keep (fun _ _ => StorageMove.idsSound) hs

/-! ### The state after reset -/

/-- The reset state satisfies every invariant: no record, no job, no window, no timer, and one report that waits. -/
theorem reset_satisfies_invariants : BlocksConserved State.reset.part ∧ MemoriesCanonical State.reset.part ∧
    RecordIdsSound State.reset.part ∧ LaneTimersSound State.reset.part ∧ QueuesWithinCapacity State.reset.part ∧
    LocksCountWindows State.reset.part ∧ PlansAccounted State.reset.part := by
  refine ⟨?_, reset_memories_wf, by decide, by decide, by decide, by decide, by decide⟩
  unfold BlocksConserved
  rw [reset_records, reset_freeList, List.flatMap_nil, List.append_nil]
  exact .refl _

/-- Settles O2: the values are those written in the reset definitions, entry by entry. -/
theorem resetHoldsTheSpecValues : Obligations.ResetHoldsTheSpecValues := by
  refine ⟨⟨rfl, rfl, ?channels, ?lines, rfl, ?plans, rfl, ?slots, reset_freeList, rfl, rfl, ?lanes, rfl, rfl, rfl, rfl, rfl, rfl, rfl, rfl,
    rfl, rfl⟩, reset_satisfies_invariants⟩
  case channels => decide
  case lines => decide
  case plans => decide
  case slots => decide
  case lanes => decide

end Sys2Proof.Machine
end

section
/-!
SUPPORT. The record commands: how a command that holds the intake queue comes through the operations it uses, what an abandon and a hand-off
do to their lane, and the statements about RECORD_RELEASE, RECORD_DISCARD and RECORD_REPLAY.
-/

namespace Sys2Proof.Machine

/-! ### A command's payload read back (R173) -/

/-- LNK reads the payload of a command as that command. -/
theorem decodePayload_encodeCommand (c : Command) : decodePayload (encodeCommand c) = .command c := by
  cases c with
  | samplingSet rate channels => exact congrArg (fun w => Decoded.command (.samplingSet rate w)) (byteWord_bytes channels)
  | detectorSet channel enabled threshold hysteresis direction =>
    exact congrArg₂ (fun t h => Decoded.command (.detectorSet channel enabled t h direction)) (byteWord_bytes threshold)
      (byteWord_bytes hysteresis)
  | planDefine plan d =>
    have h : decodePayload (encodeCommand (.planDefine plan d)) = .command (.planDefine plan { d with
        channels := byteWord (d.channels.extractLsb' 0 8) (d.channels.extractLsb' 8 8)
        pre := byteWord (d.pre.extractLsb' 0 8) (d.pre.extractLsb' 8 8)
        post := byteWord (d.post.extractLsb' 0 8) (d.post.extractLsb' 8 8)
        sources := byteWord (d.sources.extractLsb' 0 8) (d.sources.extractLsb' 8 8)
        holdoff := byteWord (d.holdoff.extractLsb' 0 8) (d.holdoff.extractLsb' 8 8) }) := rfl
    simpa only [byteWord_bytes] using h
  | recordDiscard id => exact congrArg (fun w => Decoded.command (.recordDiscard w)) (byteWord_bytes id)
  | recordRelease id => exact congrArg (fun w => Decoded.command (.recordRelease w)) (byteWord_bytes id)
  | recordReplay id => exact congrArg (fun w => Decoded.command (.recordReplay w)) (byteWord_bytes id)
  | laneSet lane k ackTimeout backoff retryLimit =>
    exact congrArg₂ (fun a b => Decoded.command (.laneSet lane k a b retryLimit)) (byteWord_bytes ackTimeout) (byteWord_bytes backoff)
  | _ => rfl

/-! ### Operations beside a command that holds the intake queue -/

section Holding

variable (tag : Byte) (payload : List Byte) (p : Part)

@[simp] theorem findRecord_holding (id : Nat) : findRecord (p.holding tag payload) id = findRecord p id := rfl

theorem modifyLane_holding (l : Fin 2) (f : Lane → Lane) :
    modifyLane l f (p.holding tag payload) = (modifyLane l f p).holding tag payload := rfl

theorem postReport_holding (r : Report) : postReport r (p.holding tag payload) = (postReport r p).holding tag payload := by
  unfold postReport
  have hreports : (p.holding tag payload).lnk.reports = p.lnk.reports := rfl
  rw [hreports]
  split <;> rfl

theorem beginStaging_holding (l : Fin 2) : beginStaging l (p.holding tag payload) = (beginStaging l p).holding tag payload := by
  have hlanes : (p.holding tag payload).lanes = p.lanes := rfl
  unfold beginStaging
  simp only [hlanes, findRecord_holding]
  cases stagingTarget p.lanes[l] with
  | none => rfl
  | some b =>
    cases currentDue p.lanes[l] with
    | some c =>
      dsimp only
      cases findRecord p c.recordId <;> rfl
    | none =>
      cases p.lanes[l].queue with
      | nil => rfl
      | cons id rest =>
        dsimp only
        cases findRecord p id <;> rfl

theorem handOff_holding (l : Fin 2) (id : Nat) : handOff l id (p.holding tag payload) = (handOff l id p).holding tag payload :=
  beginStaging_holding tag payload (modifyLane l (fun ln => { ln with queue := ln.queue ++ [id] }) p) l

theorem reexamine_holding : reexamine (p.holding tag payload) = (reexamine p).holding tag payload := by
  have hlnk : (reexamine p).lnk = p.lnk := by rw [reexamine_frame]
  have hlanes : (reexamine p).lanes = p.lanes := by rw [reexamine_frame]
  unfold Part.holding
  rw [hlnk, hlanes]
  exact reexamine_lanes_lnk p.lanes (p.holding tag payload).lnk p

theorem freeRecord_holding (id : Nat) : freeRecord id (p.holding tag payload) = (freeRecord id p).holding tag payload := by
  unfold freeRecord
  rw [findRecord_holding]
  cases findRecord p id <;> rfl

theorem freeAndReexamine_holding (id : Nat) :
    freeAndReexamine id (p.holding tag payload) = (freeAndReexamine id p).holding tag payload := by
  unfold freeAndReexamine
  rw [freeRecord_holding, reexamine_holding]

theorem abandonRecord_holding (l : Fin 2) (id : Nat) :
    abandonRecord l id (p.holding tag payload) = (abandonRecord l id p).holding tag payload := by
  have hlanes : (p.holding tag payload).lanes = p.lanes := rfl
  simp only [abandonRecord, hlanes]
  cases p.lanes[l].awaiting.filter (fun a => a.recordId == id) <;>
    simp only [modifyLane_holding, postReport_holding, beginStaging_holding]

end Holding

/-- A refused command leaves the part with its answer (R162). -/
theorem refuse_holding {p : Part} (hin : p.lnk.intake = []) (tag : Byte) (payload : List Byte) (status : Status) :
    applyReply (refuse status (p.holding tag payload)) = Part.answered tag (payloadCode payload) status [] p :=
  answerHead_holding hin status []

/-! ### A record freed -/

/-- What a free of the live record `r` leaves, on a part that may have changed the record meanwhile but not its chain (R13). -/
theorem freeAndReexamine_found {p q : Part} {id : Nat} {r : Record} (h : findRecord p id = some r) (hq : q.storage = p.storage) :
    freeAndReexamine id q =
      reexamine { q with freeList := q.freeList ++ r.chain, records := q.records.eraseP (fun x => x.id == id) } := by
  have hchain : ∀ x : Part, (findRecord x id).map (fun r => r.chain) = (x.storage.chains.find? (fun c => c.1 == id)).map Prod.snd := by
    intro x
    simp [findRecord, Part.storage, List.find?_map, Function.comp_def]
  have hsame : (findRecord q id).map (fun r => r.chain) = some r.chain := by rw [hchain, hq, ← hchain, h]; rfl
  obtain ⟨r', hr', hchain'⟩ := Option.map_eq_some_iff.1 hsame
  unfold freeAndReexamine freeRecord
  rw [hr', ← hchain']

/-! ### RECORD_RELEASE -/

/-- RECORD_RELEASE by the state of its record (R17). -/
theorem runRecordRelease_reply {p : Part} (hin : p.lnk.intake = []) (tag : Byte) (payload : List Byte) (id : BitVec 16) :
    applyReply (runRecordRelease id (p.holding tag payload)) =
      match findRecord p id.toNat with
      | none => Part.answered tag (payloadCode payload) .noSuch [] p
      | some r =>
        if r.state = .delivered then Part.begun tag payload (freeAndReexamine id.toNat p)
        else Part.answered tag (payloadCode payload) .badState [] p := by
  unfold runRecordRelease
  rw [findRecord_holding]
  cases h : findRecord p id.toNat with
  | none => exact refuse_holding hin tag payload .noSuch
  | some r =>
    simp only [findRecord_id h]
    split
    · rw [freeAndReexamine_holding, begin_holding]
    · exact refuse_holding hin tag payload .badState

/-- Settles O31: the ID of no record, a DELIVERED record, and a record in any other state. -/
theorem recordReleaseFreesADeliveredRecord : Obligations.RecordReleaseFreesADeliveredRecord := by
  rintro s p tag id rfl haccepts
  have hin : (arbitrated s.part).lnk.intake = [] := haccepts.2.1
  refine (onEvent_hostCommand haccepts (.recordRelease id) (decodePayload_encodeCommand _)).trans
    (congrArg (fun t => Host.Outcome.next (s.withPart t)) ?_)
  refine (runRecordRelease_reply hin tag _ id).trans ?_
  unfold findRecord
  cases h : (arbitrated s.part).records.find? (fun r => r.id == id.toNat) with
  | none => rfl
  | some r =>
    simp only [freeAndReexamine_found h rfl]
    rfl

/-! ### RECORD_DISCARD -/

/-- A buffer emptied, field by field (R91). -/
theorem emptyBuffer_eq (b : Fin 2) (ln : Lane) : emptyBuffer b ln = { ln with
    buffers := if ln.state = .sending then ln.buffers else ln.buffers.set b.val .empty
    releasing := if ln.state = .sending then some b else ln.releasing } := by
  unfold emptyBuffer Lane.inFlight
  by_cases h : ln.state = .sending <;> simp [h]

/-- A buffer that lost a record's packet, field by field (R94). -/
theorem dropFrom_eq (id : Nat) (b : Fin 2) (ln : Lane) : dropFrom id b ln = { ln with
    buffers := if (ln.buffers[b].packet).any (fun k => k.recordId == id) then ln.buffers.set b.val .empty else ln.buffers } := by
  unfold dropFrom
  split <;> rfl

/-- The lane states that an abandon keeps, and those that the send buffer decides (R96). -/
theorem abandonState_eq (ln : Lane) : abandonState ln =
    if ln.state = .idle ∨ ln.state = .sending ∨ ln.state = .halted then ln.state else restState ln := by
  unfold abandonState
  cases h : ln.state <;> simp

/-- The lane's part of an abandon of the awaiting packet's record, written out (R94, R96). -/
theorem abandonedAwaiting_eq (ln : Lane) (a : Awaiting) (id : Nat) : a.buffer = ln.seq →
    abandonedAwaiting id a ln =
      (let own := if ln.state = .sending then ln.buffers else ln.buffers.set a.buffer.val .empty
      let kept := if (ln.buffers[1 - ln.seq].packet).any (fun k => k.recordId == id) then own.set (1 - ln.seq).val .empty else own
      { ln with
        awaiting := none
        buffers := kept
        releasing := if ln.state = .sending then some a.buffer else ln.releasing
        ackTimer := none
        backoffTimer := none
        retries := 0
        seq := 1 - ln.seq
        resync := true
        current := if ln.current.any (fun x => x.recordId == id) then none else ln.current
        state := if ln.state = .idle ∨ ln.state = .sending ∨ ln.state = .halted then ln.state
          else if (kept[1 - ln.seq]).holds then .ready else .idle }) := by
  intro ha
  have hother : ∀ v : Vector Buffer 2, (v.set a.buffer.val .empty)[1 - ln.seq] = v[1 - ln.seq] := by
    intro v
    have hne : a.buffer.val ≠ (1 - ln.seq).val := by omega
    exact Vector.getElem_set_ne _ _ hne
  have hspare : (if ln.state = .sending then ln.buffers else ln.buffers.set a.buffer.val .empty)[1 - ln.seq] =
      ln.buffers[1 - ln.seq] := by
    split
    · rfl
    · exact hother ln.buffers
  simp only [abandonedAwaiting, Lane.spare, emptyBuffer_eq, dropFrom_eq, dropCurrent, abandonState_eq, restState, hspare]

/-- The lane's part of any other abandon, written out (R95, R96). -/
theorem abandonedUnsent_some (id : Nat) (b : Fin 2) (ln : Lane) : abandonedUnsent id (some b) ln = { ln with
    buffers := ln.buffers.set b.val .empty
    resync := true
    current := if ln.current.any (fun x => x.recordId == id) then none else ln.current
    state := if ln.state = .ready ∧ b = ln.seq then .idle else ln.state } := rfl

/-- The buffer that an abandon withdraws: the first that has a packet of the record and is not the one emptied in flight (R95). -/
theorem withdrawnBuffer_eq {id : Nat} {ln : Lane} {b : Fin 2} {k : Packet} (hk : ln.buffers[b].packet = some k) (hid : k.recordId = id)
    (hb : ln.releasing ≠ some b)
    (hbefore : ∀ c : Fin 2, c < b → ln.releasing = some c ∨ (ln.buffers[c].packet).any (fun k => k.recordId == id) = false) :
    withdrawnBuffer id ln = some b := by
  have hlies : (decide (ln.releasing ≠ some b) && (ln.buffers[b].packet).any (fun k => k.recordId == id)) = true := by
    simp only [hk, Option.any_some, hid, beq_self_eq_true, Bool.and_true, decide_eq_true_eq]
    exact hb
  unfold withdrawnBuffer
  rcases (show b = 0 ∨ b = 1 by omega) with rfl | rfl
  · simp only [List.find?_cons, hlies]
  · have hfirst : (decide (ln.releasing ≠ some 0) && (ln.buffers[(0 : Fin 2)].packet).any (fun k => k.recordId == id)) = false := by
      rcases hbefore 0 (by decide) with h | h <;> rw [h] <;> simp
    simp only [List.find?_cons, hfirst, hlies]

/-- An abandon of the awaiting packet's record (R94). -/
theorem abandonRecord_awaiting {p : Part} {l : Fin 2} {id : Nat} {a : Awaiting} (ha : p.lanes[l].awaiting = some a)
    (hid : a.recordId = id) : abandonRecord l id p =
      beginStaging l (postReport (.recordAbandoned l id a.index) (modifyLane l (abandonedAwaiting id a) p)) := by
  have hfilter : p.lanes[l].awaiting.filter (fun a => a.recordId == id) = some a := by
    rw [ha]
    simp [hid]
  simp only [abandonRecord, hfilter]

/-- An abandon of a record that has no awaiting packet, and a packet in buffer `b` (R95). -/
theorem abandonRecord_unsent {p : Part} {l : Fin 2} {id : Nat} {b : Fin 2} {k : Packet}
    (ha : ∀ a : Awaiting, p.lanes[l].awaiting = some a → a.recordId ≠ id) (hb : withdrawnBuffer id p.lanes[l] = some b)
    (hk : p.lanes[l].buffers[b].packet = some k) : abandonRecord l id p =
      beginStaging l (postReport (.recordAbandoned l id k.index) (modifyLane l (abandonedUnsent id (some b)) p)) := by
  have hfilter : p.lanes[l].awaiting.filter (fun a => a.recordId == id) = none := by
    simpa [Option.filter_eq_none_iff] using ha
  have hindex : unsentIndex p.lanes[l] (some b) = k.index := by simp only [unsentIndex, hk, Option.map_some, Option.getD_some]
  simp only [abandonRecord, hfilter, hb, hindex]

/-- RECORD_DISCARD of a live record by the record's state (R15). -/
theorem runRecordDiscard_found {p : Part} {id : BitVec 16} {r : Record} (hr : findRecord p id.toNat = some r)
    (hin : p.lnk.intake = []) (tag : Byte) (payload : List Byte) :
    applyReply (runRecordDiscard id (p.holding tag payload)) =
      match r.state with
      | .opened => Part.answered tag (payloadCode payload) .badState [] p
      | .sealed => Part.begun tag payload (freeAndReexamine id.toNat (withdrawQueued r.lane id.toNat p))
      | .sending => Part.begun tag payload (freeAndReexamine id.toNat (abandonRecord r.lane id.toNat p))
      | .delivered => Part.begun tag payload (freeAndReexamine id.toNat p) := by
  have hqueued : withdrawQueued r.lane id.toNat (p.holding tag payload) = (withdrawQueued r.lane id.toNat p).holding tag payload := rfl
  unfold runRecordDiscard
  simp only [findRecord_holding, hr, findRecord_id hr]
  cases r.state with
  | opened => exact refuse_holding hin tag payload .badState
  | sealed =>
    dsimp only
    rw [hqueued, freeAndReexamine_holding, begin_holding]
  | sending =>
    dsimp only
    rw [abandonRecord_holding, freeAndReexamine_holding, begin_holding]
  | delivered =>
    dsimp only
    rw [freeAndReexamine_holding, begin_holding]

/-- The step RECORD_DISCARD of a command that begins at once (R159, R161). -/
theorem exec_recordDiscard {s : State} {tag : Byte} (haccepts : Accepts tag (partFound (fun _ => true) s.part)) (id : BitVec 16) :
    exec (.recordDiscard tag id) s = .next (s.withPart (startAfter (fun _ => true) s.part
      (applyReply (runRecordDiscard id ((partFound (fun _ => true) s.part).holding tag (0x41 :: wordBytes id)))))) :=
  onMeeting_hostCommand haccepts (.recordDiscard id) (decodePayload_encodeCommand _)

/-- Settles O32: the ID of no record, then the record's four states, SENDING by whether its packet is the awaiting one. -/
theorem recordDiscardFreesTheRecord : Obligations.RecordDiscardFreesTheRecord := by
  rintro s p tag id rfl haccepts
  have hin : (partFound (fun _ => true) s.part).lnk.intake = [] := haccepts.2.1
  rw [exec_recordDiscard haccepts id]
  generalize partFound (fun _ => true) s.part = p at hin
  intro left begun
  refine ⟨fun hnone => ?_, fun r hr => ?_⟩
  · have hreply : applyReply (runRecordDiscard id (p.holding tag (0x41 :: wordBytes id))) = Part.answered tag 0x41 .noSuch [] p := by
      unfold runRecordDiscard
      rw [findRecord_holding, hnone]
      exact refuse_holding hin tag _ .noSuch
    rw [hreply]
  · rw [runRecordDiscard_found hr hin]
    intro ln freed names lies abandoned
    refine ⟨fun hstate => ?_, fun hstate => ?_, fun hstate => ?_, fun a hstate ha hid hbuffer => ?_,
      fun b k hstate ha hk hid hreleasing hbefore => ?_⟩
    · rw [hstate]
      rfl
    · rw [hstate]
      dsimp only
      rw [freeAndReexamine_found hr rfl]
    · rw [hstate]
      dsimp only
      rw [freeAndReexamine_found hr (storage_withdrawQueued _ _ _)]
      rfl
    · rw [hstate]
      dsimp only
      rw [freeAndReexamine_found hr (storage_abandonRecord _ _ _), abandonRecord_awaiting ha hid]
      unfold modifyLane
      rw [abandonedAwaiting_eq ln a id.toNat hbuffer]
    · rw [hstate]
      dsimp only
      rw [freeAndReexamine_found hr (storage_abandonRecord _ _ _),
        abandonRecord_unsent ha (withdrawnBuffer_eq hk hid hreleasing hbefore) hk]
      rfl

end Sys2Proof.Machine
end

section
/-!
SUPPORT. The hand-off of a record to its lane, and the statement about RECORD_REPLAY.
-/

namespace Sys2Proof.Machine

/-! ### Records changed under their ID -/

/-- A change of the first match is the constant change to what it gives there. -/
theorem modifyFirst_const {α : Type} {q : α → Bool} {r : α} (f : α → α) :
    ∀ {l : List α}, l.find? q = some r → modifyFirst q f l = modifyFirst q (fun _ => f r) l
  | [], h => nomatch h
  | a :: as, h => by
    simp only [modifyFirst]
    rw [List.find?_cons] at h
    split at h
    · rename_i ha
      obtain rfl : a = r := by simpa using h
      rw [if_pos ha, if_pos ha]
    · rename_i ha
      rw [if_neg (by simp [ha]), if_neg (by simp [ha]), modifyFirst_const f h]

/-- A change of the first match leaves the first match of a condition that excludes it. -/
theorem find_modifyFirst_other {α : Type} {q q' : α → Bool} (f : α → α) (hf : ∀ a, q a = true → q' a = false ∧ q' (f a) = false) :
    ∀ l : List α, (modifyFirst q f l).find? q' = l.find? q'
  | [] => rfl
  | a :: as => by
    simp only [modifyFirst]
    split
    · rename_i ha
      obtain ⟨hbefore, hafter⟩ := hf a ha
      simp [hbefore, hafter]
    · simp only [List.find?_cons, find_modifyFirst_other f hf as]

/-- A record changed under its ID leaves the others as they are found. -/
theorem findRecord_modifyRecord_other {id other : Nat} (hother : other ≠ id) (f : Record → Record) (hf : ∀ r, (f r).id = r.id) (p : Part) :
    findRecord (modifyRecord id f p) other = findRecord p other := by
  refine find_modifyFirst_other f (fun r hr => ?_) p.records
  have hid : r.id = id := by simpa using hr
  simp [hf, hid, hother.symm]

/-- Where the memory side is the same, the records have the same IDs in the same order. -/
theorem ids_of_storage {p q : Part} (h : q.storage = p.storage) : q.records.map (fun r => r.id) = p.records.map (fun r => r.id) := by
  have hchains := congrArg (fun st => st.chains.map Prod.fst) h
  simpa [Part.storage, Function.comp_def] using hchains

/-! ### The hand-off to a lane (R83, R88) -/

/-- With nothing awaiting, a staging begins in the send buffer if that is EMPTY (R88). -/
theorem stagingTarget_send {ln : Lane} (ha : ln.awaiting = none) (hb : ln.buffers[ln.seq] = .empty) : stagingTarget ln = some ln.seq := by
  simp only [stagingTarget, ha, hb, if_true]

/-- Behind the awaiting packet, a staging begins in the spare buffer if that is EMPTY (R88). -/
theorem stagingTarget_spare {ln : Lane} {a : Awaiting} {k : Packet} (ha : ln.awaiting = some a) (hseq : a.buffer = ln.seq)
    (hk : ln.buffers[ln.seq] = .holding k) (hspare : ln.buffers[1 - ln.seq] = .empty) : stagingTarget ln = some (1 - ln.seq) := by
  simp only [stagingTarget, ha, hseq, hk, Buffer.holds, Lane.spare, hspare, and_self, if_true]

/-- Where neither buffer takes a staging, none begins (R88). -/
theorem stagingTarget_none {ln : Lane} (hsend : ln.awaiting = none → ln.buffers[ln.seq] ≠ .empty)
    (hspare : ∀ (a : Awaiting) (k : Packet), ln.awaiting = some a → a.buffer = ln.seq → ln.buffers[ln.seq] = .holding k →
      ln.buffers[1 - ln.seq] ≠ .empty) : stagingTarget ln = none := by
  unfold stagingTarget
  split
  · rename_i ha
    exact if_neg (hsend ha)
  · rename_i a ha
    refine if_neg (fun ⟨hseq, hholds, hempty⟩ => ?_)
    cases hk : ln.buffers[ln.seq] with
    | empty => simp [hk, Buffer.holds] at hholds
    | filling k => simp [hk, Buffer.holds] at hholds
    | holding k => exact hspare a k ha hseq hk hempty

/-- A lane whose current record has no packet left, or that has no current record, has none to stage (R88). -/
theorem currentDue_none {ln : Lane} (h : ∀ c : Current, ln.current = some c → c.total ≤ c.next) : currentDue ln = none := by
  unfold currentDue
  split
  · rename_i c hc
    exact if_neg (Nat.not_lt.2 (h c hc))
  · rfl

/-- Where no staging begins the check changes nothing (R88). -/
theorem beginStaging_none {l : Fin 2} {p : Part} (ht : stagingTarget p.lanes[l] = none) : beginStaging l p = p := by
  simp only [beginStaging, ht]

/-- With no packet of a current record to stage, the header of the record at the queue's head begins staging (R84, R88). -/
theorem beginStaging_head {l b : Fin 2} {id : Nat} {rest : List Nat} {r : Record} {p : Part} (ht : stagingTarget p.lanes[l] = some b)
    (hc : currentDue p.lanes[l] = none) (hq : p.lanes[l].queue = id :: rest) (hr : findRecord p id = some r) :
    beginStaging l p = stageHead l b r p := by
  simp only [beginStaging, ht, hc, hq, hr]

/-- Two changes of one lane are one. -/
theorem modifyLane_modifyLane (l : Fin 2) (f g : Lane → Lane) (p : Part) :
    modifyLane l g (modifyLane l f p) = modifyLane l (fun ln => g (f ln)) p := by
  have hget := modifyLane_get_self l f p
  unfold modifyLane at hget ⊢
  rw [hget]
  simp only [Vector.set_set]

theorem modifyLane_modifyRecord (l : Fin 2) (f : Lane → Lane) (id : Nat) (g : Record → Record) (p : Part) :
    modifyLane l f (modifyRecord id g p) = modifyRecord id g (modifyLane l f p) := rfl

/-- Changes that agree on the lane as it stands are the same. -/
theorem modifyLane_congr {l : Fin 2} {f g : Lane → Lane} {p : Part} (h : f p.lanes[l] = g p.lanes[l]) : modifyLane l f p = modifyLane l g p := by
  simp only [modifyLane, h]

/-- A hand-off to a lane that takes no staging queues the record and changes nothing else (R83). -/
theorem handOff_waits {l : Fin 2} {p : Part} (id : Nat) (ht : stagingTarget p.lanes[l] = none) :
    handOff l id p = modifyLane l (fun ln => { ln with queue := ln.queue ++ [id] }) p := by
  refine beginStaging_none ?_
  rw [modifyLane_get_self]
  exact ht

/-- A hand-off to a lane with nothing queued and nothing to stage before begins the staging of the record's header at once (R84, R88). -/
theorem handOff_sends {l b : Fin 2} {id : Nat} {r : Record} {p : Part} (hr : findRecord p id = some r)
    (ht : stagingTarget p.lanes[l] = some b) (hc : currentDue p.lanes[l] = none) (hq : p.lanes[l].queue = []) :
    handOff l id p = modifyRecord id recordSending (modifyLane l (headerStaged b r) p) := by
  obtain rfl : r.id = id := findRecord_id hr
  have hlane := modifyLane_get_self l (fun ln => { ln with queue := ln.queue ++ [r.id] }) p
  have hhead : handOff l r.id p = stageHead l b r (modifyLane l (fun ln => { ln with queue := ln.queue ++ [r.id] }) p) :=
    beginStaging_head (rest := []) (by rw [hlane]; exact ht) (by rw [hlane]; exact hc) (by rw [hlane, hq]; rfl) hr
  rw [hhead, stageHead, modifyLane_modifyRecord]
  refine congrArg (modifyRecord r.id recordSending) ((modifyLane_modifyLane l _ _ p).trans (modifyLane_congr ?_))
  simp only [hq, List.nil_append, List.tail_cons]
  unfold headerStaged stagedPacket
  rw [← hq]
  rfl

/-! ### RECORD_REPLAY -/

/-- RECORD_REPLAY of a live record by the record's state (R18). -/
theorem runRecordReplay_found {p : Part} {id : BitVec 16} {r : Record} (hr : findRecord p id.toNat = some r) (hin : p.lnk.intake = [])
    (tag : Byte) (payload : List Byte) :
    applyReply (runRecordReplay id (p.holding tag payload)) =
      if r.state = .delivered then
        Part.begun tag payload (handOff r.lane id.toNat (modifyRecord id.toNat replayedRecord p))
      else Part.answered tag (payloadCode payload) .badState [] p := by
  have hmarked : modifyRecord id.toNat replayedRecord (p.holding tag payload) =
      (modifyRecord id.toNat replayedRecord p).holding tag payload := rfl
  unfold runRecordReplay
  simp only [findRecord_holding, hr, findRecord_id hr]
  split
  · rw [hmarked, handOff_holding, begin_holding]
  · exact refuse_holding hin tag payload .badState

/-- The step RECORD_REPLAY of a command that begins at once (R159, R161). -/
theorem exec_recordReplay {s : State} {tag : Byte} (haccepts : Accepts tag (arbitrated s.part)) (id : BitVec 16) :
    exec (.recordReplay tag id) s = .next (s.withPart
      (applyReply (runRecordReplay id ((arbitrated s.part).holding tag (0x43 :: wordBytes id))))) :=
  onEvent_hostCommand haccepts (.recordReplay id) (decodePayload_encodeCommand _)

/-- What a replay of the DELIVERED record `r` leaves where its header begins staging in buffer `b` (R84, R88). -/
theorem replay_sends {p : Part} {id : Nat} {r : Record} {b : Fin 2} (hr : findRecord p id = some r)
    (ht : stagingTarget p.lanes[r.lane] = some b) (hc : currentDue p.lanes[r.lane] = none) (hq : p.lanes[r.lane].queue = []) :
    let t := handOff r.lane id (modifyRecord id replayedRecord p)
    t = { p with records := t.records, lanes := t.lanes } ∧
    t.records.map (fun x => x.id) = p.records.map (fun x => x.id) ∧
    (∀ other : Nat, other ≠ id → findRecord t other = findRecord p other) ∧
    t.lanes[1 - r.lane] = p.lanes[1 - r.lane] ∧
    findRecord t id = some (sendingOf (replayedRecord r)) ∧
    t.lanes[r.lane] = headerStaged b (replayedRecord r) p.lanes[r.lane] := by
  intro t
  have hmarked : findRecord (modifyRecord id replayedRecord p) id = some (replayedRecord r) := by
    rw [findRecord_modifyRecord id replayedRecord (fun _ => rfl), hr]
    rfl
  have hsent : t = modifyRecord id recordSending (modifyLane r.lane (headerStaged b (replayedRecord r)) (modifyRecord id replayedRecord p)) :=
    handOff_sends hmarked ht hc hq
  have hstorage : t.storage = p.storage := by
    simp only [t, storage_handOff]
    exact storage_modifyRecord id replayedRecord (fun _ => rfl) (fun _ => rfl) p
  refine ⟨by rw [hsent]; rfl, ids_of_storage hstorage, fun other hother => ?_, ?_, ?_, ?_⟩
  · rw [hsent, findRecord_modifyRecord_other hother recordSending (fun _ => rfl)]
    exact findRecord_modifyRecord_other hother replayedRecord (fun _ => rfl) p
  · rw [hsent]
    exact modifyLane_get_other (by omega) _ _
  · rw [hsent, findRecord_modifyRecord id recordSending (fun _ => rfl)]
    exact congrArg (Option.map recordSending) hmarked
  · rw [hsent]
    exact modifyLane_get_self _ _ _

/-- Settles O33: the ID of no record, a record in another state, and a DELIVERED one by what R88 lets its lane do. -/
theorem recordReplayQueuesTheRecordAgain : Obligations.RecordReplayQueuesTheRecordAgain := by
  rintro s p tag id rfl haccepts
  have hin : (arbitrated s.part).lnk.intake = [] := haccepts.2.1
  rw [exec_recordReplay haccepts id]
  generalize arbitrated s.part = p at hin
  refine ⟨fun hnone => ?_, fun r hr => ?_⟩
  · have hreply : applyReply (runRecordReplay id (p.holding tag (0x43 :: wordBytes id))) = Part.answered tag 0x43 .noSuch [] p := by
      unfold runRecordReplay
      rw [findRecord_holding, hnone]
      exact refuse_holding hin tag _ .noSuch
    rw [hreply]
  rw [runRecordReplay_found hr hin]
  intro ln replayed queued begun sends
  have hqueued : modifyLane r.lane (fun ln => { ln with queue := ln.queue ++ [id.toNat] }) (modifyRecord id.toNat replayedRecord p) = queued := by
    have hrecords : modifyFirst (fun x => x.id == id.toNat) replayedRecord p.records =
        modifyFirst (fun x => x.id == id.toNat) (fun _ => replayed) p.records := modifyFirst_const replayedRecord hr
    simp only [modifyLane, modifyRecord, hrecords]
    rfl
  refine ⟨fun hstate => by rw [if_neg hstate]; rfl, fun hstate => ?_⟩
  rw [if_pos hstate]
  have hsends : ∀ b : Fin 2, stagingTarget ln = some b → currentDue ln = none → ln.queue = [] → sends b :=
    fun b ht hc hq => ⟨_, by rw [if_pos hstate], replay_sends hr ht hc hq⟩
  refine ⟨?_, ?_, ?_, ?_⟩
  · rw [← hqueued]
    rfl
  · intro hcurrent hq ha hb
    exact hsends ln.seq (stagingTarget_send ha hb) (currentDue_none (fun c hc => by rw [hcurrent] at hc; cases hc)) hq
  · intro a k hcurrent hq ha hseq hk hspare
    exact hsends (1 - ln.seq) (stagingTarget_spare ha hseq hk hspare) (currentDue_none hcurrent) hq
  · intro hsend hspare
    have ht : stagingTarget (modifyRecord id.toNat replayedRecord p).lanes[r.lane] = none := stagingTarget_none hsend hspare
    rw [handOff_waits id.toNat ht, hqueued]

end Sys2Proof.Machine
end

section
/-!
SUPPORT. What a step can do to the capture side of the part (plans, Pending Job Queue, window slots): the operations that leave it alone, and that
those that change it keep every plan accounted for (R23, R26).
-/

namespace Sys2Proof.Machine

/-! ### The capture side of the part -/

/-- The capture side of the part: the plans, the Pending Job Queue and the window slots. -/
structure Capture where
  plans : Vector Plan 8
  jobs : List Job
  slots : Vector (Option Window) 4

/-- What the part holds on its capture side. -/
def Part.capture (p : Part) : Capture :=
  { plans := p.plans, jobs := p.jobs, slots := p.slots }

/-- Parts of one capture side have the same plans, jobs and slots. -/
theorem capture_eq_iff {p q : Part} : q.capture = p.capture ↔ q.plans = p.plans ∧ q.jobs = p.jobs ∧ q.slots = p.slots := by
  simp [Part.capture]

/-- A fold of operations that leave the capture side alone leaves it alone. -/
theorem capture_foldl {α : Type} {f : Part → α → Part} (hf : ∀ p a, (f p a).capture = p.capture) (l : List α) (p : Part) :
    (l.foldl f p).capture = p.capture :=
  List.foldlRecOn (motive := fun q => q.capture = p.capture) l f rfl (fun q hq a _ => (hf q a).trans hq)

/-! ### Operations that leave the capture side alone -/

@[simp] theorem capture_modifyChannel (c : Fin 8) (f : Channel → Channel) (p : Part) : (modifyChannel c f p).capture = p.capture := rfl
@[simp] theorem capture_modifyDetector (c : Fin 8) (f : Detector → Detector) (p : Part) : (modifyDetector c f p).capture = p.capture := rfl
@[simp] theorem capture_modifyLine (l : Fin 4) (f : ExtLine → ExtLine) (p : Part) : (modifyLine l f p).capture = p.capture := rfl
@[simp] theorem capture_modifyLane (l : Fin 2) (f : Lane → Lane) (p : Part) : (modifyLane l f p).capture = p.capture := rfl
@[simp] theorem capture_modifyRecord (id : Nat) (f : Record → Record) (p : Part) : (modifyRecord id f p).capture = p.capture := rfl
@[simp] theorem capture_detectorUnknown (c : Fin 8) (p : Part) : (detectorUnknown c p).capture = p.capture := rfl
@[simp] theorem capture_parserToHunt (p : Part) : (parserToHunt p).capture = p.capture := rfl
@[simp] theorem capture_withTrg (u : TriggerUnit) (p : Part) : Part.capture { p with trg := u } = p.capture := rfl
@[simp] theorem capture_withLnk (x : Link) (p : Part) : Part.capture { p with lnk := x } = p.capture := rfl
@[simp] theorem capture_withSmp (m : Sampler) (p : Part) : Part.capture { p with smp := m } = p.capture := rfl

@[simp] theorem capture_postReport (r : Report) (p : Part) : (postReport r p).capture = p.capture := by
  simp [Part.capture]

@[simp] theorem capture_freeRecord (id : Nat) (p : Part) : (freeRecord id p).capture = p.capture := by
  unfold freeRecord
  split <;> rfl

@[simp] theorem capture_trimChain (id : Nat) (p : Part) : (trimChain id p).capture = p.capture := by
  unfold trimChain
  split <;> rfl

@[simp] theorem capture_lowerLocks (set : ChannelSet) (p : Part) : (lowerLocks set p).capture = p.capture := by
  rw [lowerLocks_frame]
  rfl

@[simp] theorem capture_raiseLocks (set : ChannelSet) (p : Part) : (raiseLocks set p).capture = p.capture := by
  rw [raiseLocks_frame]
  rfl

@[simp] theorem capture_beginStaging (l : Fin 2) (p : Part) : (beginStaging l p).capture = p.capture := by
  rw [beginStaging_frame]
  rfl

@[simp] theorem capture_handOff (l : Fin 2) (id : Nat) (p : Part) : (handOff l id p).capture = p.capture := by
  rw [handOff_frame]
  rfl

/-! #### The lanes -/

@[simp] theorem capture_endStaging (l b : Fin 2) (p : Part) : (endStaging l b p).capture = p.capture := by
  unfold endStaging
  split <;> simp

@[simp] theorem capture_haltLane (l : Fin 2) (reason : LaneHalt) (p : Part) : (haltLane l reason p).capture = p.capture := by
  simp [haltLane]

@[simp] theorem capture_completeLane (l : Fin 2) (p : Part) : (completeLane l p).capture = p.capture := by
  unfold completeLane
  split
  · rw [capture_beginStaging]
    split <;> simp
  · rfl

@[simp] theorem capture_retryLane (l : Fin 2) (p : Part) : (retryLane l p).capture = p.capture := by
  unfold retryLane
  extract_lets counted
  split <;> simp [counted]

@[simp] theorem capture_ackExpiry (l : Fin 2) (p : Part) : (ackExpiry l p).capture = p.capture := by
  unfold ackExpiry
  split <;> simp

@[simp] theorem capture_backoffExpiry (l : Fin 2) (p : Part) : (backoffExpiry l p).capture = p.capture := by
  unfold backoffExpiry
  split <;> simp

@[simp] theorem capture_abandonRecord (l : Fin 2) (id : Nat) (p : Part) : (abandonRecord l id p).capture = p.capture := by
  unfold abandonRecord
  extract_lets ln
  split <;> simp

@[simp] theorem capture_clearHalt (l : Fin 2) (p : Part) : (clearHalt l p).capture = p.capture := by
  simp [clearHalt]

@[simp] theorem capture_laneMillisecond (l : Fin 2) (p : Part) : (laneMillisecond l p).capture = p.capture := by
  unfold laneMillisecond
  split
  · split <;> simp
  · split <;> simp
  · rfl

/-! #### The Range Controller, the Trigger Unit and the Sampler -/

@[simp] theorem capture_applyRange (ch : Fin 8) (range : Nat) (once : Bool) (p : Part) :
    (applyRange ch range once p).capture = p.capture := by
  simp [applyRange]

@[simp] theorem capture_endPass (ch : Fin 8) (outcome : PassOutcome) (p : Part) : (endPass ch outcome p).capture = p.capture := by
  simp [endPass]

@[simp] theorem capture_cancelPass (ch : Fin 8) (p : Part) : (cancelPass ch p).capture = p.capture := by
  unfold cancelPass
  split <;> simp

@[simp] theorem capture_trackDecision (ch : Fin 8) (d : SpanDecision) (p : Part) : (trackDecision ch d p).capture = p.capture := by
  unfold trackDecision
  split
  · split <;> simp
  · rfl

@[simp] theorem capture_onceDecision (ch : Fin 8) (d : SpanDecision) (p : Part) : (onceDecision ch d p).capture = p.capture := by
  unfold onceDecision
  split
  · extract_lets n counted
    split
    · simp [counted]
    · extract_lets moved
      split <;> simp [moved, counted]
  · rfl

@[simp] theorem capture_endSpan (ch : Fin 8) (p : Part) : (endSpan ch p).capture = p.capture := by
  unfold endSpan
  extract_lets c d fresh
  split <;> simp [fresh]

@[simp] theorem capture_takeCode (ch : Fin 8) (code : SampleCode) (p : Part) : (takeCode ch code p).capture = p.capture := by
  unfold takeCode
  extract_lets counted
  split <;> simp [counted]

@[simp] theorem capture_spanArrival (ch : Fin 8) (p : Part) : (spanArrival ch p).capture = p.capture := by
  unfold spanArrival
  split <;> simp

@[simp] theorem capture_settleSpans (p : Part) : (settleSpans p).capture = p.capture :=
  capture_foldl (fun p ch => capture_spanArrival ch p) _ p

@[simp] theorem capture_observeTick (codes : Vector SampleCode 8) (p : Part) : (observeTick codes p).capture = p.capture :=
  capture_foldl (fun _ _ => capture_modifyChannel _ _ _) _ p

@[simp] theorem capture_clearLatches (p : Part) : (clearLatches p).capture = p.capture :=
  capture_foldl (fun _ _ => capture_modifyLine _ _ _) _ p

@[simp] theorem capture_readLatches (p : Part) : (readLatches p).capture = p.capture :=
  capture_foldl (fun _ _ => capture_modifyLine _ _ _) _ p

@[simp] theorem capture_judgeDetectors (codes : Vector SampleCode 8) (p : Part) : (judgeDetectors codes p).capture = p.capture := by
  refine capture_foldl (fun q ch => ?_) _ p
  split <;> simp

@[simp] theorem capture_triggerTick (tick : Nat) (codes : Vector SampleCode 8) (p : Part) :
    (triggerTick tick codes p).capture = p.capture := by
  unfold triggerTick
  extract_lets soft sources judged
  split <;> simp [judged]

@[simp] theorem capture_writeHistory (tick : Nat) (codes : Vector SampleCode 8) (p : Part) :
    (writeHistory tick codes p).capture = p.capture :=
  capture_foldl (f := fun q ch => { q with
      history := Memory.writeWord (historyAddr ch tick) codes[ch] q.history
      fill := q.fill.set ch.val (min (q.fill[ch] + 1) Config.historyDepth) }) (fun _ _ => rfl) _ p

@[simp] theorem capture_startSampler (p : Part) : (startSampler p).capture = p.capture := by
  unfold startSampler
  extract_lets settled sampler emptied started unknown cleared
  have hsettled : settled.capture = p.capture := capture_settleSpans p
  clear_value settled
  have hstarted : started.capture = emptied.capture :=
    capture_foldl (fun q ch => capture_modifyChannel ch startChannel q) allChannels emptied
  have hunknown : unknown.capture = started.capture := capture_foldl (fun q ch => capture_detectorUnknown ch q) allChannels started
  have hcleared : cleared.capture = unknown.capture := capture_clearLatches unknown
  have h : cleared.capture = p.capture := by
    rw [hcleared, hunknown, hstarted]
    exact hsettled
  clear_value cleared
  exact h

@[simp] theorem capture_setRange (ch : Fin 8) (range : Nat) (p : Part) : (setRange ch range p).capture = p.capture := by
  simp [setRange]

@[simp] theorem capture_setRangeMode (ch : Fin 8) (mode : RangeMode) (p : Part) : (setRangeMode ch mode p).capture = p.capture := by
  simp [setRangeMode]

/-! #### The link -/

@[simp] theorem capture_linkError (cause : LinkCause) (tag : Option Byte) (p : Part) : (linkError cause tag p).capture = p.capture := by
  simp [linkError]

@[simp] theorem capture_discardFrame (cause : LinkCause) (tag : Option Byte) (p : Part) :
    (discardFrame cause tag p).capture = p.capture := by
  simp [discardFrame]

@[simp] theorem capture_refuseFrame (tag : Byte) (payload : List Byte) (status : Status) (p : Part) :
    (refuseFrame tag payload status p).capture = p.capture := by
  unfold refuseFrame
  split
  · rfl
  · simp

@[simp] theorem capture_answerHead (status : Status) (results : List Byte) (p : Part) :
    (answerHead status results p).capture = p.capture := by
  unfold answerHead
  split <;> rfl

@[simp] theorem capture_applyReply (x : Part × Reply) : (applyReply x).capture = x.1.capture := by
  obtain ⟨p, reply⟩ := x
  cases reply with
  | done status results => exact capture_answerHead status results p
  | waits => rfl
  | takesTime => rfl
  | resets =>
    simp only [applyReply, answerReset]
    split <;> rfl

@[simp] theorem capture_gapExpires (p : Part) : (gapExpires p).capture = p.capture := by
  unfold gapExpires
  split
  · split <;> simp
  · rfl

@[simp] theorem capture_csRises (p : Part) : (csRises p).capture = p.capture := by
  unfold csRises
  split
  · split <;> simp
  · rfl

@[simp] theorem capture_gapMillisecond (p : Part) : (gapMillisecond p).capture = p.capture := by
  unfold gapMillisecond
  split
  · split
    · rfl
    · split
      · exact capture_gapExpires p
      · rfl
  · rfl

@[simp] theorem capture_millisecond (p : Part) : (millisecond p).capture = p.capture := by
  simp [millisecond]

@[simp] theorem capture_arbitrated (p : Part) : (arbitrated p).capture = p.capture := by
  rw [arbitrated_frame]
  rfl

@[simp] theorem capture_partFound (lanes : Fin 2 → Bool) (p : Part) : (partFound lanes p).capture = p.capture := by
  rw [partFound_frame]
  rfl

@[simp] theorem capture_startAfter (lanes : Fin 2 → Bool) (p q : Part) : (startAfter lanes p q).capture = q.capture := by
  unfold startAfter
  split <;> simp

@[simp] theorem capture_takeLengthByte (b : Byte) (x : Parser) (p : Part) : (takeLengthByte b x p).capture = p.capture := by
  unfold takeLengthByte
  split
  · rfl
  · split
    · rfl
    · simp

/-! ### The primitive changes of the capture side -/

/-- A plan that stands still: no OPEN record and no pending job (R26). -/
def PlanIdle (p : Part) (i : Fin 8) : Prop :=
  p.plans[i].openRecord = none ∧ p.jobsPending i = 0

/-- Every plan is accounted for: PlansAccounted, kept folded (R23, R26). -/
def Accounted (p : Part) : Prop :=
  PlansAccounted p

/-- Whether every plan is accounted for is a matter of the capture side alone. -/
theorem accounted_congr {p q : Part} (h : q.capture = p.capture) (hp : Accounted p) : Accounted q := by
  obtain ⟨hplans, hjobs, hslots⟩ := capture_eq_iff.1 h
  unfold Accounted PlansAccounted Part.jobsPending at *
  rw [hplans, hjobs, hslots]
  exact hp

/-- The plans that no stop halts are those neither RUNNING nor DRAINING (R39). -/
theorem stopsPlan_eq_false {pl : Plan} : stopsPlan pl = false ↔ pl.state ≠ .running ∧ pl.state ≠ .draining := by
  simp [stopsPlan]

/-- The plans that a stop halts are the RUNNING and the DRAINING ones (R39). -/
theorem stopsPlan_eq_true {pl : Plan} : stopsPlan pl = true ↔ pl.state = .running ∨ pl.state = .draining := by
  simp [stopsPlan]

/-- A plan in another state than RUNNING and DRAINING stands still. -/
theorem accounted_idle {p : Part} (hp : Accounted p) {i : Fin 8} (h : stopsPlan p.plans[i] = false) : PlanIdle p i :=
  (hp i).2 (stopsPlan_eq_false.1 h)

/-- No job of a plan is pending exactly if the queue holds none. -/
theorem jobsPending_eq_zero {p : Part} {i : Fin 8} : p.jobsPending i = 0 ↔ ∀ j ∈ p.jobs, j.plan ≠ i := by
  simp [Part.jobsPending]

/-- A plan that is not busy stands still. -/
theorem planIdle_of_not_busy {p : Part} {i : Fin 8} (h : planBusy p i = false) : PlanIdle p i := by
  simp only [planBusy, Bool.or_eq_false_iff, List.any_eq_false, beq_iff_eq] at h
  exact ⟨by simpa using h.1, jobsPending_eq_zero.2 h.2⟩

/-- A plan changed without a new OPEN record stays accounted for, if it stands still wherever it comes to another state than RUNNING and
DRAINING. -/
theorem accounted_modifyPlan {p : Part} {i : Fin 8} {f : Plan → Plan} (hp : Accounted p)
    (hopen : (f p.plans[i]).openRecord = p.plans[i].openRecord ∨ (f p.plans[i]).openRecord = none)
    (hidle : stopsPlan (f p.plans[i]) = false → (f p.plans[i]).openRecord = none ∧ p.jobsPending i = 0) :
    Accounted (modifyPlan i f p) := by
  intro k
  by_cases hk : i = k
  · subst hk
    rw [modifyPlan_get_self]
    refine ⟨fun h => (hp i).1 ?_, fun hstate => hidle (stopsPlan_eq_false.2 hstate)⟩
    rcases hopen with ho | ho
    · rwa [← ho]
    · rw [ho] at h
      cases h
  · rw [modifyPlan_get_other hk]
    exact hp k

/-- A plan whose state and OPEN record stay is accounted for as before. -/
theorem accounted_modifyPlan_same {p : Part} {i : Fin 8} {f : Plan → Plan} (hp : Accounted p)
    (hstate : (f p.plans[i]).state = p.plans[i].state) (hopen : (f p.plans[i]).openRecord = p.plans[i].openRecord) :
    Accounted (modifyPlan i f p) :=
  accounted_modifyPlan hp (.inl hopen) (fun h => hopen ▸ accounted_idle hp (by simpa only [stopsPlan, hstate] using h))

/-- A queue that has lost jobs leaves every plan accounted for. -/
theorem accounted_fewer_jobs {p : Part} {jobs : List Job} (hp : Accounted p) (h : jobs.Sublist p.jobs) :
    Accounted { p with jobs := jobs } := by
  refine fun i => ⟨(hp i).1, fun hstate => ⟨((hp i).2 hstate).1, jobsPending_eq_zero.2 (fun j hj => ?_)⟩⟩
  exact jobsPending_eq_zero.1 ((hp i).2 hstate).2 j (h.subset hj)

/-- A window replaced by one of the same plan leaves every plan accounted for. -/
theorem accounted_setSlot {p : Part} {w : Fin 4} {x y : Window} (hp : Accounted p) (hx : p.slots[w] = some x)
    (hplan : y.plan = x.plan) : Accounted (setSlot w (some y) p) := by
  refine fun i => ⟨fun ho => ?_, (hp i).2⟩
  obtain ⟨v, hv⟩ := (hp i).1 ho
  refine ⟨v, ?_⟩
  rw [setSlot_get]
  split
  · rename_i hw
    subst hw
    simpa [hx, hplan] using hv
  · exact hv

/-- A window's slot freed with its plan's OPEN record gone leaves every plan accounted for. -/
theorem accounted_close {p : Part} {w : Fin 4} {x : Window} (hp : Accounted p) (hx : p.slots[w] = some x) :
    Accounted (modifyPlan x.plan (fun pl => { pl with openRecord := none }) (setSlot w none p)) := by
  intro i
  by_cases hi : x.plan = i
  · subst hi
    rw [modifyPlan_get_self]
    exact ⟨fun h => by simp at h, fun hstate => ⟨rfl, ((hp x.plan).2 hstate).2⟩⟩
  · rw [modifyPlan_get_other hi]
    refine ⟨fun ho => ?_, (hp i).2⟩
    obtain ⟨v, hv⟩ := (hp i).1 ho
    refine ⟨v, ?_⟩
    have hw : w ≠ v := by
      rintro rfl
      simp [hx, hi] at hv
    rwa [modifyPlan_slots, setSlot_get_other hw]

/-- What an open needs and takes: the job is in the queue, its plan has no OPEN record, and the slot is free (R62). -/
theorem nextOpen_spec {p : Part} {w : Fin 4} {j : Job} {d : PlanDef} {pre blocks : Nat} (h : nextOpen p = some (w, j, d, pre, blocks)) :
    p.slots[w] = none ∧ j ∈ p.jobs ∧ p.plans[j.plan].openRecord = none := by
  unfold nextOpen at h
  split at h
  · rename_i v k oldest hslot hjob _
    have hfree : p.slots[v] = none := by simpa using List.find?_some hslot
    have hready : p.plans[k.plan].openRecord = none := by
      have hk := List.find?_some hjob
      simp only [jobReady, Bool.and_eq_true] at hk
      simpa using hk.1
    split at h
    · simp only at h
      split at h
      · cases h
        exact ⟨hfree, List.mem_of_find?_eq_some hjob, hready⟩
      · cases h
    · cases h
  · cases h

/-- The capture side after an open (R67). -/
theorem capture_openWindow (w : Fin 4) (j : Job) (d : PlanDef) (pre blocks : Nat) (p : Part) :
    (openWindow w j d pre blocks p).capture =
      { plans := p.plans.set j.plan.val { p.plans[j.plan] with openRecord := some (nextRecordId p) }
        jobs := p.jobs.erase j
        slots := p.slots.set w.val (some (newWindow j d pre (nextRecordId p))) } := by
  simp only [openWindow, setSlot, modifyPlan]
  rw [raiseLocks_frame]
  rfl

/-- An open gives the plan of a pending job its record and its window: the plan runs or drains, and every plan stays accounted for (R67). -/
theorem accounted_openWindow {p : Part} {w : Fin 4} {j : Job} {d : PlanDef} {pre blocks : Nat}
    (h : nextOpen p = some (w, j, d, pre, blocks)) (hp : Accounted p) : Accounted (openWindow w j d pre blocks p) := by
  obtain ⟨hfree, hjob, -⟩ := nextOpen_spec h
  obtain ⟨hplans, hjobs, hslots⟩ := (Capture.mk.injEq _ _ _ _ _ _).mp (capture_openWindow w j d pre blocks p)
  have hfewer := accounted_fewer_jobs hp (List.erase_sublist (a := j) (l := p.jobs))
  intro i
  unfold Part.jobsPending
  rw [hplans, hjobs, hslots]
  by_cases hi : j.plan = i
  · subst hi
    refine ⟨fun _ => ⟨w, by simp [newWindow]⟩, fun hstate => ?_⟩
    have hstate' : p.plans[j.plan].state ≠ .running ∧ p.plans[j.plan].state ≠ .draining := by simpa using hstate
    exact absurd rfl (jobsPending_eq_zero.1 ((hp j.plan).2 hstate').2 j hjob)
  · have hget : (p.plans.set j.plan.val { p.plans[j.plan] with openRecord := some (nextRecordId p) })[i] = p.plans[i] :=
      Vector.getElem_set_ne _ _ (fun e => hi (Fin.ext e))
    rw [hget]
    refine ⟨fun ho => ?_, (hfewer i).2⟩
    obtain ⟨v, hv⟩ := (hp i).1 ho
    have hw : w.val ≠ v.val := by
      intro e
      rw [← Fin.ext e, hfree] at hv
      simp at hv
    exact ⟨v, by simpa [Vector.getElem_set_ne _ _ hw] using hv⟩

theorem accounted_reexamine {p : Part} (hp : Accounted p) : Accounted (reexamine p) :=
  reexamine_induct (fun _ _ _ _ _ _ hopen hq => accounted_openWindow hopen hq) hp

/-- A plan without a pending job is left alone by every open, so by a re-examination (R62). -/
theorem planIdle_reexamine {p : Part} {i : Fin 8} (h : PlanIdle p i) : PlanIdle (reexamine p) i := by
  refine reexamine_induct (P := fun q => PlanIdle q i) (fun q w j d pre blocks hopen hq => ?_) h
  obtain ⟨-, hjob, -⟩ := nextOpen_spec hopen
  obtain ⟨hplans, hjobs, -⟩ := (Capture.mk.injEq _ _ _ _ _ _).mp (capture_openWindow w j d pre blocks q)
  have hne : j.plan ≠ i := jobsPending_eq_zero.1 hq.2 j hjob
  refine ⟨?_, jobsPending_eq_zero.2 (fun k hk => jobsPending_eq_zero.1 hq.2 k ?_)⟩
  · have hget : (q.plans.set j.plan.val { q.plans[j.plan] with openRecord := some (nextRecordId q) })[i] = q.plans[i] :=
      Vector.getElem_set_ne _ _ (fun e => hne (Fin.ext e))
    rw [hplans, hget]
    exact hq.1
  · rw [hjobs] at hk
    exact List.mem_of_mem_erase hk

end Sys2Proof.Machine
end

section
/-!
SUPPORT. The judgement of an offer, plan by plan (R36, R37): to whom it is handed, the verdict, and what the verdict leaves.
-/

namespace Sys2Proof.Machine

/-! ### To whom an offer is handed (R36) -/

/-- A set of sources holds no source exactly if none of the thirteen is in it. -/
theorem sourceSet_ne_zero {s : SourceSet} : s ≠ 0 ↔ ∃ n : Fin 13, s.getLsbD n.val = true := by
  rw [← not_iff_not]
  simp only [ne_eq, not_not, not_exists, Bool.not_eq_true]
  refine ⟨fun h n => by rw [h]; simp, fun h => BitVec.eq_of_getLsbD_eq (fun n hn => ?_)⟩
  simpa using h ⟨n, hn⟩

/-- SOFT is source 12. -/
theorem softSource_getLsbD (n : Fin 13) : softSource.getLsbD n.val = decide (n.val = 12) := by
  revert n
  decide

/-- The sources of an offer as they count for a plan, source by source (R36). -/
theorem sourcesFor_getLsbD (o : Offer) (i : Fin 8) (n : Fin 13) :
    (sourcesFor o i).getLsbD n.val = true ↔
      o.sources.getLsbD n.val = true ∧ (n.val = 12 → (o.softMask.getD 0).getLsbD i.val = true) := by
  unfold sourcesFor
  split
  · rename_i h
    exact (and_iff_left (fun _ => h)).symm
  · rename_i h
    rw [BitVec.getLsbD_and, BitVec.getLsbD_not, softSource_getLsbD, Bool.and_eq_true, decide_eq_true n.isLt, Bool.true_and,
      Bool.not_eq_true', decide_eq_false_iff_not]
    exact and_congr_right (fun _ => ⟨fun hn hn' => absurd hn' hn, fun hn hn' => h (hn hn')⟩)

/-- A plan watches an offer exactly if its source set meets the sources that count for it (R36). -/
theorem watches_iff (o : Offer) (d : PlanDef) (i : Fin 8) : Watches o d i ↔ d.sources &&& sourcesFor o i ≠ 0 := by
  rw [sourceSet_ne_zero]
  refine exists_congr (fun n => ?_)
  rw [BitVec.getLsbD_and, Bool.and_eq_true, sourcesFor_getLsbD]

/-- The definition with which an offer is handed to a plan (R36). -/
theorem handedTo_eq_some {p : Part} {o : Offer} {i : Fin 8} {d : PlanDef} :
    handedTo p o i = some d ↔ p.plans[i].definition = some d ∧ p.plans[i].state = .running ∧ o.unseenBy.getLsbD i.val = false ∧
      Watches o d i := by
  unfold handedTo
  cases p.plans[i].definition with
  | none => simp
  | some e =>
    simp only [Option.some.injEq, Option.ite_none_right_eq_some, ← watches_iff]
    constructor
    · rintro ⟨h, rfl⟩
      exact ⟨rfl, h⟩
    · rintro ⟨rfl, h⟩
      exact ⟨h, rfl⟩

/-- An offer is handed to no plan that is not HandedTo it. -/
theorem handedTo_eq_none {p : Part} {o : Offer} {i : Fin 8} : handedTo p o i = none ↔ ¬ HandedTo o p.plans[i] i := by
  rw [Option.eq_none_iff_forall_ne_some]
  simp only [ne_eq, handedTo_eq_some, HandedTo]
  constructor
  · rintro h ⟨hstate, hseen, d, hd, hw⟩
    exact h d ⟨hd, hstate, hseen, hw⟩
  · rintro h d ⟨hd, hstate, hseen, hw⟩
    exact h ⟨hstate, hseen, d, hd, hw⟩

/-! ### The verdict (R37) -/

/-- A plan is busy with an OPEN record or a pending job (R23). -/
theorem planBusy_iff {p : Part} {i : Fin 8} : planBusy p i = true ↔ p.plans[i].openRecord ≠ none ∨ ∃ j ∈ p.jobs, j.plan = i := by
  simp [planBusy, Option.isSome_iff_ne_none]

/-- The verdict of a plan that an offer is handed to, and of one that it is not. -/
theorem offerVerdict_eq (o : Offer) (i : Fin 8) (p : Part) : offerVerdict o i p = (handedTo p o i).map (judge p o i) := by
  cases h : handedTo p o i with
  | none =>
    rw [handedTo_eq_none] at h
    unfold offerVerdict
    split
    · rfl
    · rename_i d hd
      exact if_neg (fun ⟨hstate, hseen, hw⟩ => h ⟨hstate, hseen, d, hd, hw⟩)
  | some d =>
    obtain ⟨hd, hhanded⟩ := handedTo_eq_some.1 h
    simp only [offerVerdict, hd, if_pos hhanded, Option.map_some, judge, Bool.and_eq_true, planBusy_iff, decide_eq_true_eq, apply_ite some]
    rfl

/-- What an acceptance makes of a RUNNING plan (R37 step 4, R28). -/
theorem acceptedPlan_eq (tick : Nat) {pl : Plan} (h : pl.state = .running) : acceptedPlan tick pl = { pl with
    lastAccepted := some tick
    shots := match pl.shots with
      | .count n => .count (n - 1)
      | .unlimited => .unlimited
    state := if pl.shots = .count 0 ∨ pl.shots = .count 1 then .draining else .running
    counters := { pl.counters with accepted := min (pl.counters.accepted + 1) 65535 } } := by
  have hlast : takeShot pl.shots = .count 0 ↔ pl.shots = .count 0 ∨ pl.shots = .count 1 := by
    cases pl.shots with
    | count n =>
      simp only [takeShot, Shots.count.injEq]
      omega
    | unlimited => simp [takeShot]
  simp only [acceptedPlan, hlast, h]
  rfl

/-- One plan's place in the judgement of an offer leaves what its verdict gives (R37, R54). -/
theorem judgePlan_part (o : Offer) (acc : Judged) (i : Fin 8) : (judgePlan o acc i).part = afterVerdict o i acc.part := by
  unfold judgePlan afterVerdict
  rw [offerVerdict_eq]
  cases h : handedTo acc.part o i with
  | none => rfl
  | some d =>
    simp only [Option.map_some]
    cases judge acc.part o i d with
    | ignored => rfl
    | dropped reason => cases reason <;> rfl
    | accepted =>
      obtain ⟨-, hrunning, -⟩ := handedTo_eq_some.1 h
      exact congrArg (fun pl => modifyPlan i (fun _ => pl) { acc.part with
        jobs := acc.part.jobs ++ [{ plan := i, sources := o.sources, tick := o.tick }] }) (acceptedPlan_eq o.tick hrunning)

/-- The plans that have accepted an offer, after one more plan's place in its judgement (R52). -/
theorem judgePlan_accepted (o : Offer) (acc : Judged) (i : Fin 8) : (judgePlan o acc i).accepted =
    if offerVerdict o i acc.part = some .accepted then acc.accepted ||| planBit i else acc.accepted := by
  unfold judgePlan
  rw [offerVerdict_eq]
  cases handedTo acc.part o i with
  | none => rfl
  | some d =>
    simp only [Option.map_some, Option.some.injEq]
    cases judge acc.part o i d <;> rfl

/-- The verdict of a plan the offer is not handed to leaves the part as it is. -/
theorem afterVerdict_of_not_handed {o : Offer} {i : Fin 8} {p : Part} (h : ¬ HandedTo o p.plans[i] i) : afterVerdict o i p = p := by
  simp only [afterVerdict, offerVerdict_eq, handedTo_eq_none.2 h, Option.map_none]

/-- A verdict changes no other plan. -/
theorem afterVerdict_other {o : Offer} {i k : Fin 8} (h : i ≠ k) (p : Part) : (afterVerdict o i p).plans[k] = p.plans[k] := by
  have hset : ∀ pl : Plan, (p.plans.set i.val pl)[k] = p.plans[k] := fun pl => Vector.getElem_set_ne _ _ (fun e => h (Fin.ext e))
  unfold afterVerdict
  extract_lets pl
  split
  · rfl
  · exact hset _
  · rw [postReport_plans]
    exact hset _
  · rw [postReport_plans]
    exact hset _
  · exact hset _

/-- A verdict leaves the Trigger Unit alone. -/
theorem afterVerdict_trg (o : Offer) (i : Fin 8) (p : Part) : (afterVerdict o i p).trg = p.trg := by
  unfold afterVerdict
  extract_lets pl
  split
  · rfl
  · rfl
  · rw [postReport_trg]
  · rw [postReport_trg]
  · rfl

end Sys2Proof.Machine
end

section
/-!
SUPPORT. Every operation that changes plans, jobs or window slots keeps every plan accounted for, so every step does.
-/

namespace Sys2Proof.Machine

/-- A fold of operations that keep every plan accounted for keeps it. -/
theorem accounted_foldl {α : Type} {f : Part → α → Part} (hf : ∀ p a, Accounted p → Accounted (f p a)) (l : List α)
    {p : Part} (hp : Accounted p) : Accounted (l.foldl f p) :=
  List.foldlRecOn (motive := Accounted) l f hp (fun q hq a _ => hf q a hq)

theorem mem_allPlans (i : Fin 8) : i ∈ allPlans := by
  revert i
  decide

theorem mem_allSlots (w : Fin 4) : w ∈ allSlots := by
  revert w
  decide

/-! ### Plans -/

theorem accounted_planDoneIfIdle (i : Fin 8) {p : Part} (hp : Accounted p) : Accounted (planDoneIfIdle i p) := by
  unfold planDoneIfIdle
  split
  · rename_i h
    exact accounted_congr (capture_postReport _ _)
      (accounted_modifyPlan hp (.inl rfl) (fun _ => planIdle_of_not_busy h.2))
  · exact hp

/-- A plan that stands still may be halted (R26). -/
theorem accounted_haltPlan {i : Fin 8} (reason : PlanHalt) (removed : Nat) {p : Part} (hp : Accounted p) (hidle : PlanIdle p i) :
    Accounted (haltPlan i reason removed p) :=
  accounted_congr (capture_postReport _ _) (accounted_modifyPlan hp (.inl rfl) (fun _ => hidle))

/-- A halt changes no plan's OPEN record and no job. -/
theorem planIdle_haltPlan {i k : Fin 8} (reason : PlanHalt) (removed : Nat) {p : Part} (h : PlanIdle p k) :
    PlanIdle (haltPlan i reason removed p) k := by
  unfold PlanIdle Part.jobsPending haltPlan
  rw [postReport_plans, postReport_jobs, modifyPlan_get]
  refine ⟨?_, h.2⟩
  split
  · rename_i hik
    exact hik ▸ h.1
  · exact h.1

theorem accounted_expireJob (reason : ExpiryReason) (j : Job) {p : Part} (hp : Accounted p) :
    Accounted (expireJob reason j p) := by
  have hgone : Accounted { p with jobs := p.jobs.erase j } := accounted_fewer_jobs hp List.erase_sublist
  unfold expireJob
  exact accounted_congr (capture_postReport _ _) (accounted_modifyPlan_same hgone rfl rfl)

theorem accounted_expireByHistory {p : Part} (hp : Accounted p) : Accounted (expireByHistory p) := by
  unfold expireByHistory
  split
  · exact hp
  · refine accounted_reexamine (accounted_foldl (fun q j hq => ?_) _ hp)
    exact accounted_planDoneIfIdle j.plan (accounted_expireJob .history j hq)

/-! ### Windows -/

theorem accounted_storeFrame {slot : Fin 4} {w x : Window} (tick : Nat) (codes : List SampleCode) {p : Part} (hp : Accounted p)
    (hx : p.slots[slot] = some x) (hplan : w.plan = x.plan) : Accounted (storeFrame slot w tick codes p) := by
  unfold storeFrame
  split
  · exact accounted_setSlot (x := x) hp hx hplan
  · exact hp

theorem accounted_copyFrame (slot : Fin 4) {p : Part} (hp : Accounted p) : Accounted (copyFrame slot p) := by
  unfold copyFrame
  split
  · rename_i w hw
    split
    · split
      · exact accounted_storeFrame _ _ hp hw rfl
      · exact hp
    · exact hp
  · exact hp

theorem accounted_endCopy (slot : Fin 4) {p : Part} (hp : Accounted p) : Accounted (endCopy slot p) := by
  unfold endCopy
  split
  · rename_i w newest hw _
    split
    · exact accounted_setSlot hp hw rfl
    · exact hp
  · exact hp

theorem accounted_copyBeforeLoss (tick : Nat) (slot : Fin 4) {p : Part} (hp : Accounted p) :
    Accounted (copyBeforeLoss tick slot p) := by
  unfold copyBeforeLoss
  split
  · split
    · exact accounted_copyFrame slot hp
    · exact hp
  · exact hp

theorem accounted_liveTick (tick : Nat) (codes : Vector SampleCode 8) (slot : Fin 4) {p : Part} (hp : Accounted p) :
    Accounted (liveTick tick codes slot p) := by
  unfold liveTick
  split
  · rename_i w hw
    split
    · extract_lets w'
      have hplan : w'.plan = w.plan := by
        simp only [w']
        split <;> rfl
      split
      · exact accounted_storeFrame _ _ hp hw hplan
      · exact accounted_setSlot hp hw hplan
    · exact hp
  · exact hp

/-- The capture side after steps 1 to 6 of a seal: the slot is free and the plan's OPEN record gone (R73). -/
theorem capture_sealRecord (slot : Fin 4) (w : Window) (p : Part) :
    (sealRecord slot w p).capture = (modifyPlan w.plan (fun pl => { pl with openRecord := none }) (setSlot slot none p)).capture := by
  have hclose : ∀ q : Part, q.capture = p.capture →
      (modifyPlan w.plan (fun pl => { pl with openRecord := none }) (setSlot slot none q)).capture =
        (modifyPlan w.plan (fun pl => { pl with openRecord := none }) (setSlot slot none p)).capture := by
    intro q hq
    obtain ⟨hplans, hjobs, hslots⟩ := capture_eq_iff.1 hq
    simp only [Part.capture, modifyPlan, setSlot, hplans, hjobs, hslots]
  unfold sealRecord
  extract_lets trimmed lowered closed
  have hlowered : lowered.capture = p.capture := by simp [lowered, trimmed]
  split
  · rw [capture_handOff, capture_postReport]
    exact hclose lowered hlowered
  · exact hclose lowered hlowered

theorem accounted_sealRecord {slot : Fin 4} {w : Window} {p : Part} (hw : p.slots[slot] = some w) (hp : Accounted p) :
    Accounted (sealRecord slot w p) :=
  accounted_congr (capture_sealRecord slot w p) (accounted_close hp hw)

theorem accounted_sealWindow (completes : Bool) (slot : Fin 4) {p : Part} (hp : Accounted p) :
    Accounted (sealWindow completes slot p) := by
  unfold sealWindow
  split
  · rename_i w hw
    extract_lets q
    have hq : Accounted q := accounted_sealRecord hw hp
    refine accounted_reexamine ?_
    split
    · exact accounted_planDoneIfIdle _ hq
    · exact hq
  · exact hp

theorem accounted_sealEnded (slot : Fin 4) {p : Part} (hp : Accounted p) : Accounted (sealEnded slot p) := by
  unfold sealEnded
  split
  · split
    · exact accounted_sealWindow true slot hp
    · exact hp
  · exact hp

theorem accounted_tickEvent (inputs : Vector Int 8) {p : Part} (hp : Accounted p) : Accounted (tickEvent inputs p) := by
  unfold tickEvent
  split
  · extract_lets tick settled codes copied written sampled triggered observed
    have hsettled : Accounted settled := accounted_congr (capture_settleSpans p) hp
    have hcopied : Accounted copied := accounted_foldl (fun q w hq => accounted_copyBeforeLoss tick w hq) _ hsettled
    have hobserved : observed.capture = copied.capture := by simp [observed, triggered, sampled, written]
    exact accounted_foldl (fun q w hq => accounted_liveTick tick codes w hq) _ (accounted_congr hobserved hcopied)
  · exact hp

/-! ### A stop of the Sampler -/

/-- With every job of the queue expired the queue is empty (R131 step 2). -/
theorem jobs_expireAll (reason : ExpiryReason) : ∀ (l : List Job) (p : Part), p.jobs = l →
    (l.foldl (fun q j => expireJob reason j q) p).jobs = []
  | [], _, h => h
  | j :: l, p, h => jobs_expireAll reason l (expireJob reason j p) (by simp [expireJob, h])

/-- A seal that does not complete its window is its steps 1 to 6 and the re-examination (R73). -/
theorem sealWindow_false {p : Part} {slot : Fin 4} {w : Window} (hw : p.slots[slot] = some w) :
    sealWindow false slot p = reexamine (sealRecord slot w p) := by
  simp only [sealWindow, hw]
  rfl

/-- With no job pending a seal frees its slot and takes no other (R73). -/
theorem sealWindow_slots {p : Part} (hjobs : p.jobs = []) (slot : Fin 4) :
    (sealWindow false slot p).jobs = [] ∧ (sealWindow false slot p).slots[slot] = none ∧
      ∀ v : Fin 4, p.slots[v] = none → (sealWindow false slot p).slots[v] = none := by
  cases hw : p.slots[slot] with
  | none =>
    have hsame : sealWindow false slot p = p := by simp only [sealWindow, hw]
    rw [hsame]
    exact ⟨hjobs, hw, fun _ hv => hv⟩
  | some w =>
    obtain ⟨-, hjobs', hslots⟩ := capture_eq_iff.1 (capture_sealRecord slot w p)
    have hempty : (sealRecord slot w p).jobs = [] := hjobs'.trans hjobs
    rw [sealWindow_false hw, reexamine_no_job hempty, hslots, modifyPlan_slots]
    refine ⟨hempty, setSlot_get_self slot none p, fun v hv => ?_⟩
    rw [setSlot_get]
    split
    · rfl
    · exact hv

/-- With no job pending, the seals of a stop free every slot they come to (R131 step 3). -/
theorem sealWindows_slots : ∀ (l : List (Fin 4)) {p : Part}, p.jobs = [] →
    (l.foldl (fun q w => sealWindow false w q) p).jobs = [] ∧
      ∀ v : Fin 4, v ∈ l ∨ p.slots[v] = none → (l.foldl (fun q w => sealWindow false w q) p).slots[v] = none
  | [], _, h => ⟨h, fun v hv => hv.resolve_left (by simp)⟩
  | w :: l, p, h => by
    obtain ⟨hjobs, hown, hothers⟩ := sealWindow_slots h w
    obtain ⟨hjobs', hslots⟩ := sealWindows_slots l hjobs
    refine ⟨hjobs', fun v hv => hslots v ?_⟩
    rcases hv with hv | hv
    · rcases List.mem_cons.1 hv with rfl | hv
      · exact .inr hown
      · exact .inl hv
    · exact .inr (hothers v hv)

/-- With no job pending and no window open every plan stands still. -/
theorem planIdle_of_empty {p : Part} (hp : Accounted p) (hjobs : p.jobs = []) (hslots : ∀ w : Fin 4, p.slots[w] = none) (i : Fin 8) :
    PlanIdle p i := by
  refine ⟨?_, jobsPending_eq_zero.2 (by simp [hjobs])⟩
  by_contra ho
  obtain ⟨w, hw⟩ := (hp i).1 (Option.isSome_iff_ne_none.2 ho)
  rw [hslots w] at hw
  cases hw

theorem accounted_stopSampler {p : Part} (hp : Accounted p) : Accounted (stopSampler p) := by
  unfold stopSampler
  extract_lets sampler cleared expired closed halted
  have hcleared : Accounted cleared := accounted_congr (p := p) (by simp [cleared, sampler]) hp
  have hexpired : Accounted expired := accounted_foldl (fun q j hq => accounted_expireJob _ j hq) _ hcleared
  have hclosed : Accounted closed := accounted_foldl (fun q w hq => accounted_sealWindow false w hq) _ hexpired
  obtain ⟨hjobs, hslots⟩ := sealWindows_slots allSlots (jobs_expireAll .samplingStopped cleared.jobs cleared rfl)
  have hidle : ∀ i, PlanIdle closed i := planIdle_of_empty hclosed hjobs (fun w => hslots w (.inl (mem_allSlots w)))
  have hhalted : Accounted halted ∧ ∀ i, PlanIdle halted i := by
    refine List.foldlRecOn (motive := fun q => Accounted q ∧ ∀ i, PlanIdle q i) allPlans _ ⟨hclosed, hidle⟩ ?_
    rintro q ⟨hq, hqidle⟩ i -
    split
    · exact ⟨accounted_haltPlan _ _ hq (hqidle i), fun k => planIdle_haltPlan _ _ (hqidle k)⟩
    · exact ⟨hq, hqidle⟩
  exact accounted_congr (capture_foldl (fun q ch => capture_cancelPass ch q) _ _) hhalted.1

/-! ### Commands -/

/-- One change of each plan of a list, none of them twice, and of nothing else. -/
theorem foldl_modifyPlan (f : Plan → Plan) : ∀ {l : List (Fin 8)}, l.Nodup → ∀ p : Part,
    (l.foldl (fun q i => modifyPlan i f q) p).jobs = p.jobs ∧ (l.foldl (fun q i => modifyPlan i f q) p).slots = p.slots ∧
      ∀ k : Fin 8, (l.foldl (fun q i => modifyPlan i f q) p).plans[k] = if k ∈ l then f p.plans[k] else p.plans[k]
  | [], _, _ => ⟨rfl, rfl, fun k => by simp⟩
  | i :: l, hl, p => by
    obtain ⟨hi, hl⟩ := List.nodup_cons.1 hl
    obtain ⟨hjobs, hslots, hplans⟩ := foldl_modifyPlan f hl (modifyPlan i f p)
    refine ⟨hjobs, hslots, fun k => (hplans k).trans ?_⟩
    by_cases hk : i = k
    · subst hk
      rw [if_neg hi, if_pos List.mem_cons_self, modifyPlan_get_self]
    · rw [modifyPlan_get_other hk]
      simp [Ne.symm hk]

/-- RESET FLUSH leaves no plan with an OPEN record, no job and no window (R40, R80). -/
theorem accounted_flush {p : Part} (hp : Accounted p) : Accounted (flush p) := by
  unfold flush
  extract_lets emptied plans lanes
  obtain ⟨hjobs, -, hplans⟩ := foldl_modifyPlan flushedPlan (l := allPlans) (by decide) emptied
  have hlanes : lanes.capture = plans.capture := by simp only [lanes, capture_modifyLane]
  refine accounted_congr ((capture_foldl (fun q c => capture_modifyChannel c _ q) allChannels lanes).trans hlanes) (fun i => ?_)
  have hidle : plans.plans[i].openRecord = none := by
    refine (congrArg Plan.openRecord ((hplans i).trans (if_pos (mem_allPlans i)))).trans ?_
    unfold flushedPlan
    split
    · rfl
    · rename_i hstops
      exact (accounted_idle hp (by simpa using hstops)).1
  have hempty : plans.jobs = [] := hjobs
  exact ⟨fun h => absurd (hidle ▸ h) nofun, fun _ => ⟨hidle, jobsPending_eq_zero.2 (by rw [hempty]; exact nofun)⟩⟩

/-- A plan without a job and without a window stands still. -/
theorem planIdle_of_planSlot {p : Part} {i : Fin 8} (hp : Accounted p) (hjobs : ∀ j ∈ p.jobs, j.plan ≠ i)
    (hslot : planSlot p i = none) : PlanIdle p i := by
  refine ⟨?_, jobsPending_eq_zero.2 hjobs⟩
  by_contra ho
  obtain ⟨w, hw⟩ := (hp i).1 (Option.isSome_iff_ne_none.2 ho)
  unfold planSlot at hslot
  rw [List.find?_eq_none] at hslot
  exact hslot w (mem_allSlots w) hw

/-- The window that an abort seals is the plan's. -/
theorem planSlot_some {p : Part} {i : Fin 8} {w : Fin 4} (h : planSlot p i = some w) : ∃ x : Window, p.slots[w] = some x ∧ x.plan = i := by
  have hw := List.find?_some h
  simpa [Option.any_eq_true] using hw

/-- A plan whose window has been sealed, and whose jobs are gone, stands still (R73, R26). -/
theorem planIdle_sealWindow {p : Part} {i : Fin 8} {w : Fin 4} {x : Window} (hjobs : ∀ j ∈ p.jobs, j.plan ≠ i) (hx : p.slots[w] = some x)
    (hplan : x.plan = i) : PlanIdle (sealWindow false w p) i := by
  obtain ⟨hplans, hjobs', -⟩ := capture_eq_iff.1 (capture_sealRecord w x p)
  rw [sealWindow_false hx]
  refine planIdle_reexamine ⟨?_, jobsPending_eq_zero.2 (fun j hj => hjobs j (hjobs' ▸ hj))⟩
  rw [hplans, ← hplan, modifyPlan_get_self]

theorem accounted_stopAbort (i : Fin 8) {p : Part} (hp : Accounted p) : Accounted (stopAbort i p) := by
  unfold stopAbort
  extract_lets removed q
  have hq : Accounted q := accounted_fewer_jobs hp List.filter_sublist
  have hjobs : ∀ j ∈ q.jobs, j.plan ≠ i := fun j hj => by simpa using (List.mem_filter.1 hj).2
  split
  · rename_i w hw
    obtain ⟨x, hx, hplan⟩ := planSlot_some hw
    exact accounted_reexamine (accounted_haltPlan _ _ (accounted_sealWindow false w hq) (planIdle_sealWindow hjobs hx hplan))
  · rename_i hw
    have hhalted : ∀ n, Accounted (haltPlan i .hostAbort n q) :=
      fun n => accounted_haltPlan _ _ hq (planIdle_of_planSlot hq hjobs hw)
    split
    · exact hhalted 0
    · exact accounted_reexamine (hhalted removed)

theorem accounted_stopGraceful (i : Fin 8) {p : Part} (hp : Accounted p) : Accounted (stopGraceful i p) := by
  unfold stopGraceful
  split
  · exact accounted_planDoneIfIdle i (accounted_modifyPlan hp (.inl rfl) (fun h => by simp [stopsPlan] at h))
  · exact hp

theorem accounted_runReset (mode : Byte) {p : Part} (hp : Accounted p) : Accounted (runReset mode p).1 := by
  unfold runReset
  split
  · exact hp
  · exact accounted_flush hp
  · exact hp

@[simp] theorem capture_runSamplingSet (rate : Byte) (channels : BitVec 16) (p : Part) :
    (runSamplingSet rate channels p).1.capture = p.capture := by
  unfold runSamplingSet
  repeat' split
  all_goals simp

@[simp] theorem capture_runSamplingStart (p : Part) : (runSamplingStart p).1.capture = p.capture := by
  unfold runSamplingStart
  split <;> simp

theorem accounted_runSamplingStop {p : Part} (hp : Accounted p) : Accounted (runSamplingStop p).1 := by
  unfold runSamplingStop
  split
  · rw [takenInTime_fst]
    exact accounted_stopSampler hp
  · exact hp

@[simp] theorem capture_runRangeSet (channel range : Byte) (p : Part) : (runRangeSet channel range p).1.capture = p.capture := by
  unfold runRangeSet
  repeat' split
  all_goals simp

@[simp] theorem capture_runRangeMode (channel mode : Byte) (p : Part) : (runRangeMode channel mode p).1.capture = p.capture := by
  unfold runRangeMode
  repeat' split
  all_goals simp

@[simp] theorem capture_runExtlineSet (line enabled edge : Byte) (p : Part) :
    (runExtlineSet line enabled edge p).1.capture = p.capture := by
  unfold runExtlineSet
  split <;> simp

@[simp] theorem capture_runDetectorSet (channel enabled : Byte) (threshold hysteresis : BitVec 16) (direction : Byte) (p : Part) :
    (runDetectorSet channel enabled threshold hysteresis direction p).1.capture = p.capture := by
  unfold runDetectorSet
  repeat' split
  all_goals simp

@[simp] theorem capture_runTrigger (mask : Byte) (p : Part) : (runTrigger mask p).1.capture = p.capture := by
  unfold runTrigger
  repeat' split
  all_goals simp

theorem accounted_runPlanDefine (plan : Byte) (args : PlanArgs) {p : Part} (hp : Accounted p) :
    Accounted (runPlanDefine plan args p).1 := by
  unfold runPlanDefine
  split
  · exact hp
  · split
    · exact hp
    · rename_i hstops
      split
      · exact hp
      · split
        · exact accounted_modifyPlan hp (.inl rfl) (fun _ => accounted_idle hp (by simpa using hstops))
        · exact hp

theorem accounted_runPlanClear (plan : Byte) {p : Part} (hp : Accounted p) : Accounted (runPlanClear plan p).1 := by
  have hclear : ∀ i : Fin 8, stopsPlan p.plans[i] = false → Accounted (modifyPlan i (fun _ => Plan.reset) p) :=
    fun i hi => accounted_modifyPlan hp (.inr rfl) (fun _ => ⟨rfl, (accounted_idle hp hi).2⟩)
  unfold runPlanClear
  split
  · exact hp
  · rename_i i _
    split
    · exact hp
    · exact hp
    · exact hp
    all_goals
      rename_i hstate
      exact hclear i (stopsPlan_eq_false.2 (by rw [hstate]; decide))

theorem accounted_runPlanStart (plan : Byte) {p : Part} (hp : Accounted p) : Accounted (runPlanStart plan p).1 := by
  have hstart : ∀ (i : Fin 8) (d : PlanDef), Accounted (startPlan i d p) :=
    fun i d => accounted_modifyPlan (accounted_congr (capture_withTrg _ p) hp) (.inl rfl) (fun h => by simp [startedPlan, stopsPlan] at h)
  unfold runPlanStart
  split
  · exact hp
  · split
    · exact hp
    · split
      · exact hp
      · split
        · exact hp
        · split
          · exact hp
          · split
            · exact hp
            · exact hstart _ _

theorem accounted_runPlanStop (plan mode : Byte) {p : Part} (hp : Accounted p) : Accounted (runPlanStop plan mode p).1 := by
  unfold runPlanStop
  split
  · split
    · exact accounted_stopGraceful _ hp
    · exact hp
  · split
    · exact accounted_stopAbort _ hp
    · exact hp
  · exact hp

theorem accounted_freeAndReexamine (id : Nat) {p q : Part} (hq : q.capture = p.capture) (hp : Accounted p) :
    Accounted (freeAndReexamine id q) :=
  accounted_reexamine (accounted_congr ((capture_freeRecord id q).trans hq) hp)

theorem accounted_runRecordDiscard (id : BitVec 16) {p : Part} (hp : Accounted p) : Accounted (runRecordDiscard id p).1 := by
  unfold runRecordDiscard
  split
  · exact hp
  · rename_i r _
    split
    · exact hp
    · exact accounted_freeAndReexamine r.id rfl hp
    · exact accounted_freeAndReexamine r.id (capture_abandonRecord r.lane r.id p) hp
    · exact accounted_freeAndReexamine r.id rfl hp

theorem accounted_runRecordRelease (id : BitVec 16) {p : Part} (hp : Accounted p) : Accounted (runRecordRelease id p).1 := by
  unfold runRecordRelease
  split
  · exact hp
  · rename_i r _
    split
    · exact accounted_freeAndReexamine r.id rfl hp
    · exact hp

@[simp] theorem capture_runRecordReplay (id : BitVec 16) (p : Part) : (runRecordReplay id p).1.capture = p.capture := by
  unfold runRecordReplay
  split
  · rfl
  · split <;> simp

@[simp] theorem capture_runLaneSet (lane k : Byte) (ackTimeout backoff : BitVec 16) (retryLimit : Byte) (p : Part) :
    (runLaneSet lane k ackTimeout backoff retryLimit p).1.capture = p.capture := by
  unfold runLaneSet
  repeat' split
  all_goals simp

@[simp] theorem capture_runLaneClearHalt (lane : Byte) (p : Part) : (runLaneClearHalt lane p).1.capture = p.capture := by
  unfold runLaneClearHalt
  repeat' split
  all_goals simp

/-- The commands that only report leave the part as it is. -/
theorem runChannelGet_fst (channel : Byte) (p : Part) : (runChannelGet channel p).1 = p := by
  unfold runChannelGet
  split <;> rfl

theorem runPlanGet_fst (plan : Byte) (p : Part) : (runPlanGet plan p).1 = p := by
  unfold runPlanGet
  split <;> rfl

theorem runLaneGet_fst (lane : Byte) (p : Part) : (runLaneGet lane p).1 = p := by
  unfold runLaneGet
  split <;> rfl

theorem accounted_runCommand (c : Command) {p : Part} (hp : Accounted p) : Accounted (runCommand c p).1 := by
  cases c with
  | inquire => exact hp
  | status => exact hp
  | reset mode => exact accounted_runReset mode hp
  | samplingSet rate channels => exact accounted_congr (capture_runSamplingSet rate channels p) hp
  | samplingStart => exact accounted_congr (capture_runSamplingStart p) hp
  | samplingStop => exact accounted_runSamplingStop hp
  | rangeSet channel range => exact accounted_congr (capture_runRangeSet channel range p) hp
  | rangeMode channel mode => exact accounted_congr (capture_runRangeMode channel mode p) hp
  | channelGet channel => exact (runChannelGet_fst channel p).symm ▸ hp
  | extlineSet line enabled edge => exact accounted_congr (capture_runExtlineSet line enabled edge p) hp
  | detectorSet channel enabled threshold hysteresis direction => exact accounted_congr (capture_runDetectorSet _ _ _ _ _ p) hp
  | trigger mask => exact accounted_congr (capture_runTrigger mask p) hp
  | planDefine plan definition => exact accounted_runPlanDefine plan definition hp
  | planClear plan => exact accounted_runPlanClear plan hp
  | planStart plan => exact accounted_runPlanStart plan hp
  | planStop plan mode => exact accounted_runPlanStop plan mode hp
  | planGet plan => exact (runPlanGet_fst plan p).symm ▸ hp
  | recordList => exact hp
  | recordDiscard id => exact accounted_runRecordDiscard id hp
  | recordRelease id => exact accounted_runRecordRelease id hp
  | recordReplay id => exact accounted_congr (capture_runRecordReplay id p) hp
  | laneSet lane k ackTimeout backoff retryLimit => exact accounted_congr (capture_runLaneSet _ _ _ _ _ p) hp
  | laneClearHalt lane => exact accounted_congr (capture_runLaneClearHalt lane p) hp
  | laneGet lane => exact (runLaneGet_fst lane p).symm ▸ hp

theorem accounted_drain {p : Part} (hp : Accounted p) : Accounted (drain p) := by
  refine drain_induct (P := Accounted) (fun c _ q _ _ hq => accounted_congr (capture_applyReply _) ?_) hp
  unfold runPayload
  split
  · exact hq
  · exact hq
  · exact accounted_runCommand _ hq

theorem accounted_finishExecution {p : Part} (hp : Accounted p) : Accounted (finishExecution p) :=
  accounted_drain (accounted_congr (by simp) hp)

theorem accounted_endTrigger (status : Status) (results : List Byte) {p : Part} (hp : Accounted p) :
    Accounted (endTrigger status results p) :=
  accounted_drain (accounted_congr (by simp) hp)

theorem accounted_commandArrives (tag : Byte) (payload : List Byte) {p : Part} (hp : Accounted p) :
    Accounted (commandArrives tag payload p) := by
  have hhunt : Accounted (parserToHunt p) := accounted_congr (capture_parserToHunt p) hp
  have hrefused : ∀ status, Accounted (refuseFrame tag payload status (parserToHunt p)) :=
    fun status => accounted_congr (capture_refuseFrame tag payload status _) hhunt
  unfold commandArrives takeCommand
  split
  · exact hrefused _
  · split
    · exact hrefused _
    · split
      · exact hrefused _
      · exact accounted_drain (accounted_congr (capture_withLnk _ _) hhunt)

theorem accounted_hostCommand (tag : Byte) (c : Command) {p : Part} (hp : Accounted p) : Accounted (hostCommand tag c p) :=
  accounted_commandArrives tag (encodeCommand c) hp

/-! ### Verdicts, frames and offers -/

theorem accounted_completeDelivery (l : Fin 2) (id : Nat) {p : Part} (hp : Accounted p) : Accounted (completeDelivery l id p) := by
  unfold completeDelivery
  extract_lets counted
  have hcounted : Accounted counted := accounted_congr (capture_modifyLane _ _ _) hp
  split
  · split
    · exact accounted_congr (capture_modifyRecord _ _ _) hcounted
    · exact accounted_freeAndReexamine id rfl hcounted
  · exact hcounted

theorem accounted_acceptPacket (l : Fin 2) (a : Awaiting) {p : Part} (hp : Accounted p) : Accounted (acceptPacket l a p) := by
  unfold acceptPacket
  extract_lets final settled completed
  have hsettled : Accounted settled := accounted_congr (capture_modifyLane _ _ _) hp
  have hcompleted : Accounted completed := by
    simp only [completed]
    split
    · exact accounted_completeDelivery l a.recordId hsettled
    · exact hsettled
  exact accounted_congr (by simp) hcompleted

theorem accounted_verdictEffect (l : Fin 2) (a : Awaiting) (v : Verdict) {p : Part} (hp : Accounted p) :
    Accounted (verdictEffect l a v p) := by
  have hstale : Accounted (staleAck l p) := accounted_congr (capture_modifyLane _ _ _) hp
  have hnoted : Accounted (modifyLane l (fun ln => { ln with haltNoted := true }) p) := accounted_congr (capture_modifyLane _ _ _) hp
  have hheld : Accounted (modifyLane l heldLane p) := accounted_congr (capture_modifyLane _ _ _) hp
  have hretry : Accounted (retryLane l p) := accounted_congr (capture_retryLane l p) hp
  have hhalt : Accounted (haltLane l .host p) := accounted_congr (capture_haltLane l .host p) hp
  have haccept := accounted_acceptPacket l a hp
  unfold verdictEffect
  split <;> (try split) <;> assumption

theorem accounted_takeAck (lane seq verdict : Byte) {p : Part} (hp : Accounted p) : Accounted (takeAck lane seq verdict p) := by
  unfold takeAck
  extract_lets l
  split
  · exact accounted_verdictEffect l _ _ hp
  · exact accounted_congr (capture_modifyLane _ _ _) hp

theorem accounted_ackArrives (lane seq verdict : Byte) {p : Part} (hp : Accounted p) : Accounted (ackArrives lane seq verdict p) :=
  accounted_takeAck lane seq verdict (accounted_congr (capture_parserToHunt p) hp)

theorem accounted_discardFrame (cause : LinkCause) (tag : Option Byte) {p : Part} (hp : Accounted p) :
    Accounted (discardFrame cause tag p) :=
  accounted_congr (capture_discardFrame cause tag p) hp

theorem accounted_judgeKind (kind tag : Byte) (payload : List Byte) {p : Part} (hp : Accounted p) :
    Accounted (judgeKind kind tag payload p) := by
  unfold judgeKind
  split
  · exact accounted_commandArrives tag payload hp
  · split
    · split
      · exact accounted_ackArrives _ _ _ hp
      · exact accounted_discardFrame _ _ hp
    · exact accounted_discardFrame _ _ hp

theorem accounted_parseByte (b : Byte) {p : Part} (hp : Accounted p) : Accounted (parseByte b p) := by
  unfold parseByte
  split
  · split <;> exact hp
  · exact accounted_congr (capture_takeLengthByte b _ p) hp
  · exact hp
  · unfold takeCheckByte
    split
    · exact hp
    · unfold judgeFrame
      split
      · split
        · exact accounted_judgeKind _ _ _ hp
        · exact accounted_discardFrame _ _ hp
      · exact accounted_discardFrame _ _ hp

/-- A device reset leaves every plan EMPTY, no job and no window (R41, R171). -/
theorem accounted_deviceReset (cause : ResetCause) (pins : ResetPins) (p : Part) : Accounted (deviceReset cause pins p) := by
  have hcleared : (Part.cleared pins p.history p.blocks).capture = State.reset.part.capture := rfl
  exact accounted_congr ((capture_postReport _ _).trans hcleared) reset_satisfies_invariants.2.2.2.2.2.2

theorem accounted_completeFrame (pins : ResetPins) {p : Part} (hp : Accounted p) : Accounted (completeFrame pins p) := by
  unfold completeFrame
  split
  · split
    · unfold cargoArrived
      split
      · exact accounted_deviceReset _ _ _
      · exact hp
      · exact hp
      · exact accounted_congr (capture_completeLane _ _) hp
    · exact hp
  · exact hp

theorem accounted_byteArrives (b : Byte) (pins : ResetPins) {p : Part} (hp : Accounted p) : Accounted (byteArrives b pins p) := by
  unfold byteArrives
  split
  · exact accounted_parseByte b hp
  · exact accounted_completeFrame pins (accounted_parseByte b (p := exchangeByte p) hp)

theorem accounted_frameStarts {p : Part} (hp : Accounted p) : Accounted (frameStarts p) := by
  unfold frameStarts
  split
  · exact accounted_congr (capture_arbitrated _) (accounted_finishExecution hp)
  · exact hp

/-- A job for a RUNNING or DRAINING plan leaves every plan accounted for. -/
theorem accounted_addJob {p : Part} {j : Job} (hp : Accounted p) (h : stopsPlan p.plans[j.plan] = true) :
    Accounted { p with jobs := p.jobs ++ [j] } := by
  refine fun i => ⟨(hp i).1, fun hstate => ⟨((hp i).2 hstate).1, jobsPending_eq_zero.2 (fun k hk => ?_)⟩⟩
  rcases List.mem_append.1 hk with hk | hk
  · exact jobsPending_eq_zero.1 ((hp i).2 hstate).2 k hk
  · rintro rfl
    obtain rfl := List.mem_singleton.1 hk
    rw [stopsPlan_eq_false.2 hstate] at h
    cases h

/-- An acceptance leaves its plan RUNNING or DRAINING (R28). -/
theorem stopsPlan_acceptedPlan (tick : Nat) {pl : Plan} (h : pl.state = .running) : stopsPlan (acceptedPlan tick pl) = true := by
  rw [acceptedPlan_eq tick h, stopsPlan_eq_true]
  dsimp only
  split
  · exact .inr rfl
  · exact .inl rfl

/-- A judgement gives a job to a RUNNING plan alone, and that plan runs on or drains (R36, R37, R28). -/
theorem accounted_applyJudgement (o : Offer) {i : Fin 8} (j : Judgement) {p : Part} (hp : Accounted p)
    (hrunning : p.plans[i].state = .running) : Accounted (applyJudgement o i j p) := by
  cases j with
  | ignored => exact accounted_modifyPlan_same hp rfl rfl
  | dropped reason =>
    cases reason <;>
    · refine accounted_congr (capture_postReport _ _) ?_
      exact accounted_modifyPlan_same hp rfl rfl
  | accepted =>
    have hjob : Accounted { p with jobs := p.jobs ++ [{ plan := i, sources := o.sources, tick := o.tick }] } :=
      accounted_addJob hp (stopsPlan_eq_true.2 (.inl hrunning))
    refine accounted_modifyPlan hjob (.inl rfl) (fun h => ?_)
    rw [stopsPlan_acceptedPlan o.tick hrunning] at h
    cases h

theorem accounted_judgePlan (o : Offer) {acc : Judged} (i : Fin 8) (h : Accounted acc.part) :
    Accounted (judgePlan o acc i).part := by
  unfold judgePlan
  split
  · exact h
  · rename_i d hd
    obtain ⟨-, hrunning, -⟩ := handedTo_eq_some.1 hd
    split <;> exact accounted_applyJudgement o _ h hrunning

theorem accounted_judgeOffer (o : Offer) {p : Part} (hp : Accounted p) : Accounted (judgeOffer o p).part :=
  List.foldlRecOn (motive := fun acc : Judged => Accounted acc.part) allPlans (judgePlan o) hp
    (fun _ hacc i _ => accounted_judgePlan o i hacc)

theorem accounted_handleOffer (o : Offer) {p : Part} (hp : Accounted p) : Accounted (handleOffer o p) := by
  unfold handleOffer
  extract_lets j examined
  have hjudged : Accounted j.part := accounted_judgeOffer o hp
  have hexamined : Accounted examined := by
    simp only [examined]
    split
    · exact hjudged
    · exact accounted_reexamine hjudged
  split
  · exact accounted_endTrigger _ _ hexamined
  · exact hexamined

theorem accounted_takeOffer {p : Part} (hp : Accounted p) : Accounted (takeOffer p) := by
  unfold takeOffer
  split
  · exact hp
  · exact accounted_handleOffer _ hp

theorem accounted_tickLimitStop {p : Part} (hp : Accounted p) : Accounted (tickLimitStop p) := by
  unfold tickLimitStop
  split
  · extract_lets stopped
    have hstopped : Accounted stopped := accounted_congr (capture_postReport _ _) (accounted_stopSampler hp)
    split
    · exact accounted_endTrigger _ _ hstopped
    · exact hstopped
  · exact hp

theorem accounted_elapse {p : Part} (hp : Accounted p) : Accounted (elapse p) := by
  unfold elapse
  split
  · exact accounted_finishExecution hp
  · exact accounted_congr (capture_millisecond p) hp

/-! ### Every step keeps the plans accounted for -/

theorem accounted_onPart {f : Part → Part} (hf : ∀ {p}, Accounted p → Accounted (f p)) {s t : State} (h : onPart f s = .next t)
    (hs : Accounted s.part) : Accounted t.part := by
  rw [onPart_next h]
  exact hf hs

theorem accounted_onEvent {f : Part → Part} (hf : ∀ {p}, Accounted p → Accounted (f p)) {s t : State} (h : onEvent f s = .next t)
    (hs : Accounted s.part) : Accounted t.part :=
  accounted_onPart (fun hp => hf (accounted_congr (capture_arbitrated _) hp)) h hs

theorem accounted_onMeeting {lanes : Fin 2 → Bool} {f : Part → Part} (hf : ∀ {p}, Accounted p → Accounted (f p)) {s t : State}
    (h : onMeeting lanes f s = .next t) (hs : Accounted s.part) : Accounted t.part :=
  accounted_onPart (fun hp => accounted_congr (capture_startAfter lanes _ _) (hf (accounted_congr (capture_partFound lanes _) hp))) h hs

theorem accounted_exec {i : Instr} {s t : State} (h : exec i s = .next t) (hs : Accounted s.part) : Accounted t.part := by
  cases i with
  | powerOn pins => exact accounted_onPart (fun _ => accounted_deviceReset .power pins _) h hs
  | resetPin pins => exact accounted_onPart (fun _ => accounted_deviceReset .pin pins _) h hs
  | extEdge line level =>
    exact accounted_onEvent (f := fun p => modifyLine line (edgeOnLine p.smp.running level) p)
      (accounted_congr (capture_modifyLine line _ _)) h hs
  | tickEvent inputs => exact accounted_onEvent (accounted_tickEvent inputs) h hs
  | spanEnd channel => exact accounted_onEvent (accounted_congr (capture_spanArrival channel _)) h hs
  | tickLimitStop => exact accounted_onEvent accounted_tickLimitStop h hs
  | offer => exact accounted_onEvent accounted_takeOffer h hs
  | jobExpiry => exact accounted_onEvent accounted_expireByHistory h hs
  | copyEnd slot => exact accounted_onEvent (accounted_endCopy slot) h hs
  | windowSeal slot => exact accounted_onEvent (accounted_sealEnded slot) h hs
  | stagingEnd lane buffer => exact accounted_onEvent (accounted_congr (capture_endStaging lane buffer _)) h hs
  | frameStart => exact accounted_onEvent accounted_frameStarts h hs
  | frameComplete pins => exact accounted_onEvent (accounted_completeFrame pins) h hs
  | ack lane seq verdict => exact accounted_onMeeting (accounted_ackArrives lane seq verdict) h hs
  | ackTimerExpiry lane => exact accounted_onEvent (accounted_congr (capture_ackExpiry lane _)) h hs
  | backoffTimerExpiry lane => exact accounted_onEvent (accounted_congr (capture_backoffExpiry lane _)) h hs
  | commandFrame tag payload => exact accounted_onMeeting (accounted_commandArrives tag payload) h hs
  | frameDiscard fault tag => exact accounted_onEvent (accounted_discardFrame _ tag) h hs
  | gapExpiry => exact accounted_onEvent (accounted_congr (capture_gapExpires _)) h hs
  | csRise => exact accounted_onEvent (accounted_congr (capture_csRises _)) h hs
  | unknownCommand tag payload => exact accounted_onMeeting (accounted_commandArrives tag payload) h hs
  | resetFlush tag => exact accounted_onMeeting (accounted_hostCommand tag _) h hs
  | recordDiscard tag id => exact accounted_onMeeting (accounted_hostCommand tag _) h hs
  | inboundByte arrival => exact accounted_onMeeting (accounted_byteArrives arrival.value arrival.pins) h hs
  | catchUpCopyFrame slot => exact accounted_onEvent (accounted_copyFrame slot) h hs
  | _ => exact accounted_onEvent (accounted_hostCommand _ _) h hs

/-- Settles O60: each operation that halts or ends a plan comes after the plan's jobs and its window have gone, and each that gives a plan a job
or a window finds it RUNNING or DRAINING. -/
theorem everyStepKeepsPlansAccounted : Obligations.EveryStepKeepsPlansAccounted := by
  intro s t hstep hs
  unfold step at hstep
  split at hstep
  · rename_i c rest _
    exact accounted_exec (s := { s with pending := rest }) hstep hs
  · exact accounted_onEvent accounted_elapse hstep hs

end Sys2Proof.Machine
end

section
/-!
SUPPORT. An offer taken with no TRIGGER waiting for its tick, and the statement about an offer that at most one plan is handed.
-/

namespace Sys2Proof.Machine

/-! ### The judgement of an offer by all plans (R54, R55) -/

/-- Plans the offer is not handed to change nothing in its judgement. -/
theorem foldl_judgePlan_unhanded (o : Offer) : ∀ (l : List (Fin 8)) (acc : Judged), (∀ i ∈ l, ¬ HandedTo o acc.part.plans[i] i) →
    l.foldl (judgePlan o) acc = acc
  | [], _, _ => rfl
  | i :: l, acc, h => by
    have hsame : judgePlan o acc i = acc := by simp only [judgePlan, handedTo_eq_none.2 (h i List.mem_cons_self)]
    rw [List.foldl_cons, hsame]
    exact foldl_judgePlan_unhanded o l acc (fun k hk => h k (List.mem_cons_of_mem _ hk))

/-- An offer handed to no plan but `i` is judged by `i` alone. -/
theorem judgeOffer_single {o : Offer} {p : Part} {i : Fin 8} (h : ∀ k : Fin 8, k ≠ i → ¬ HandedTo o p.plans[k] k) :
    judgeOffer o p = judgePlan o { part := p, accepted := 0, dropped := 0 } i := by
  obtain ⟨lower, higher, hsplit⟩ := List.append_of_mem (mem_allPlans i)
  have hnodup : (lower ++ i :: higher).Nodup := hsplit ▸ (by decide : allPlans.Nodup)
  have hlower : ∀ k ∈ lower, k ≠ i := by
    rintro k hk rfl
    exact List.disjoint_of_nodup_append hnodup hk List.mem_cons_self
  have hhigher : ∀ k ∈ higher, k ≠ i := by
    rintro k hk rfl
    exact (List.nodup_cons.1 hnodup.of_append_right).1 hk
  unfold judgeOffer
  rw [hsplit, List.foldl_append, List.foldl_cons, foldl_judgePlan_unhanded o lower _ (fun k hk => h k (hlower k hk))]
  refine foldl_judgePlan_unhanded o higher _ (fun k hk => ?_)
  rw [judgePlan_part, afterVerdict_other (hhigher k hk).symm]
  exact h k (hhigher k hk)

/-- The judgement of an offer leaves the Trigger Unit alone. -/
theorem judgeOffer_trg (o : Offer) (p : Part) : (judgeOffer o p).part.trg = p.trg := by
  unfold judgeOffer
  refine List.foldlRecOn (motive := fun acc : Judged => acc.part.trg = p.trg) allPlans (judgePlan o) rfl (fun acc hacc i _ => ?_)
  rw [judgePlan_part, afterVerdict_trg, hacc]

/-- No TRIGGER in execution has fired at the tick. -/
theorem firedAt_eq_false {p : Part} {tick : Nat} (h : ∀ r : TriggerRun, p.trg.run = some r → r.firedAt ≠ some tick) :
    firedAt p tick = false := by
  unfold firedAt
  split
  · rename_i r hr
    exact decide_eq_false (h r hr)
  · rfl

/-- CAP's event for an offer of a tick at which no TRIGGER has fired: the judgements, and the re-examination where a plan accepts (R54). -/
theorem handleOffer_unfired {o : Offer} {p : Part} (h : ∀ r : TriggerRun, p.trg.run = some r → r.firedAt ≠ some o.tick) :
    handleOffer o p =
      if (judgeOffer o p).accepted = 0 then (judgeOffer o p).part else reexamine (judgeOffer o p).part := by
  have hjudged := judgeOffer_trg o p
  unfold handleOffer
  generalize judgeOffer o p = j at hjudged
  have hexamined : (if j.accepted = 0 then j.part else reexamine j.part).trg = p.trg := by
    split
    · exact hjudged
    · rw [reexamine_frame]
      exact hjudged
  exact if_neg (by rw [firedAt_eq_false (by rwa [hexamined])]; exact Bool.false_ne_true)

/-- An offer that at most plan `i` is handed leaves what that plan's verdict gives, with a re-examination after an acceptance (R54, R61). -/
theorem handleOffer_single {o : Offer} {p : Part} {i : Fin 8} (hrun : ∀ r : TriggerRun, p.trg.run = some r → r.firedAt ≠ some o.tick)
    (h : ∀ k : Fin 8, k ≠ i → ¬ HandedTo o p.plans[k] k) :
    handleOffer o p =
      if offerVerdict o i p = some .accepted then reexamine (afterVerdict o i p) else afterVerdict o i p := by
  have hbit : ∀ k : Fin 8, (0 : PlanSet) ||| planBit k ≠ 0 := by decide
  rw [handleOffer_unfired hrun, judgeOffer_single h, judgePlan_part, judgePlan_accepted]
  by_cases hv : offerVerdict o i p = some .accepted
  · simp only [if_pos hv, if_neg (hbit i)]
  · simp only [if_neg hv, if_true]

/-- The four checks of a plan the offer is handed to, in their order (R37). -/
theorem offerVerdict_handed {o : Offer} {p : Part} {i : Fin 8} {d : PlanDef} (hd : p.plans[i].definition = some d)
    (h : HandedTo o p.plans[i] i) : offerVerdict o i p =
      if p.plans[i].lastAccepted.any (fun t => decide (o.tick < t + d.holdoff)) then some .ignored
      else if (p.plans[i].openRecord ≠ none ∨ ∃ j ∈ p.jobs, j.plan = i) ∧ d.policy = .drop then some (.dropped .busy)
      else if 8 ≤ p.jobs.length then some (.dropped .queueFull)
      else some .accepted := by
  obtain ⟨hstate, hseen, e, he, hw⟩ := h
  obtain rfl : d = e := Option.some.inj (hd.symm.trans he)
  simp only [offerVerdict, hd, if_pos (⟨hstate, hseen, hw⟩ : _ ∧ _ ∧ _)]

/-- Settles O8: no plan is handed the offer, or one is, whose verdict is the first of the four checks that applies. -/
theorem offerIsJudgedByTheRunningPlan : Obligations.OfferIsJudgedByTheRunningPlan := by
  intro s p o rest hp hoffers hrun taken
  have hexec : exec .offer s = .next (s.withPart (handleOffer o taken)) := by
    have htake : takeOffer p = handleOffer o taken := by simp only [takeOffer, hoffers, taken]
    exact (onEvent_eq takeOffer s).trans (by rw [hp, htake])
  have hrun' : ∀ r : TriggerRun, taken.trg.run = some r → r.firedAt ≠ some o.tick := hrun
  rw [hexec]
  refine ⟨fun hnone => ?_, ?_⟩
  · have hnone' : ∀ k : Fin 8, ¬ HandedTo o taken.plans[k] k := hnone
    have hverdict : offerVerdict o 0 taken = none := by rw [offerVerdict_eq, handedTo_eq_none.2 (hnone' 0), Option.map_none]
    rw [handleOffer_single (i := 0) hrun' (fun k _ => hnone' k), hverdict, if_neg nofun, afterVerdict_of_not_handed (hnone' 0)]
  · intro i d hd hhanded hothers pl
    rw [handleOffer_single (p := taken) hrun' hothers]
    unfold afterVerdict
    rw [offerVerdict_handed (p := taken) hd hhanded]
    refine congrArg (fun t => Host.Outcome.next (s.withPart t)) ?_
    by_cases hholdoff : pl.lastAccepted.any (fun t => decide (o.tick < t + d.holdoff)) = true
    · rw [if_pos hholdoff, if_pos hholdoff]
      rfl
    rw [if_neg hholdoff, if_neg hholdoff]
    by_cases hbusy : (pl.openRecord ≠ none ∨ ∃ j ∈ taken.jobs, j.plan = i) ∧ d.policy = .drop
    · rw [if_pos hbusy, if_pos hbusy]
      rfl
    rw [if_neg hbusy, if_neg hbusy]
    by_cases hfull : 8 ≤ taken.jobs.length
    · rw [if_pos hfull, if_pos hfull]
      rfl
    · rw [if_neg hfull, if_neg hfull]
      rfl

end Sys2Proof.Machine
end

section
/-!
SUPPORT. The plan commands that are done within their event: PLAN_DEFINE, PLAN_CLEAR, PLAN_START and PLAN_STOP GRACEFUL.
-/

namespace Sys2Proof.Machine

/-! ### Shared by the plan commands -/

theorem planArg_of_lt {plan : Byte} (h : plan.toNat < 8) : planArg plan = some ⟨plan.toNat, h⟩ :=
  dif_pos h

theorem planArg_of_ge {plan : Byte} (h : ¬ plan.toNat < 8) : planArg plan = none :=
  dif_neg h

@[simp] theorem plans_holding (tag : Byte) (payload : List Byte) (p : Part) : (p.holding tag payload).plans = p.plans := rfl

theorem modifyPlan_holding (tag : Byte) (payload : List Byte) (p : Part) (i : Fin 8) (f : Plan → Plan) :
    modifyPlan i f (p.holding tag payload) = (modifyPlan i f p).holding tag payload := rfl

/-- A taken command that is done within its event leaves its effect with the answer OK (R162). -/
theorem taken_holding {q : Part} (hin : q.lnk.intake = []) (tag : Byte) (payload : List Byte) :
    applyReply (taken (q.holding tag payload)) = Part.answered tag (payloadCode payload) .ok [] q :=
  answerHead_holding hin .ok []

/-- A command that the part accepts, as a step on the part that the due frame start has left (R159, R161, R165). -/
theorem onEvent_command {s : State} {p : Part} {tag : Byte} (hp : arbitrated s.part = p) (haccepts : Accepts tag p) (c : Command) {t : Part}
    (ht : applyReply (runCommand c (p.holding tag (encodeCommand c))) = t) :
    onEvent (hostCommand tag c) s = .next (s.withPart t) := by
  subst hp
  rw [onEvent_hostCommand haccepts c (decodePayload_encodeCommand c), ht]

/-! ### PLAN_CLEAR -/

/-- PLAN_CLEAR by the plan's state (R33). -/
theorem runPlanClear_reply {plan : Byte} {i : Fin 8} (hi : planArg plan = some i) {p : Part} {pl : Plan} (hpl : p.plans[i] = pl)
    (hin : p.lnk.intake = []) (tag : Byte) (payload : List Byte) :
    applyReply (runPlanClear plan (p.holding tag payload)) =
      if pl.state = .running ∨ pl.state = .draining then Part.answered tag (payloadCode payload) .busy [] p
      else if pl.state = .empty then Part.answered tag (payloadCode payload) .ok [] p
      else Part.answered tag (payloadCode payload) .ok [] (modifyPlan i (fun _ => Plan.reset) p) := by
  have hcleared := taken_holding (q := modifyPlan i (fun _ => Plan.reset) p) hin tag payload
  unfold runPlanClear
  rw [hi]
  dsimp only
  rw [plans_holding, hpl]
  cases pl.state with
  | empty => exact taken_holding hin tag payload
  | ready => exact hcleared
  | running => exact refuse_holding hin tag payload .busy
  | draining => exact refuse_holding hin tag payload .busy
  | done => exact hcleared
  | halted => exact hcleared

/-- Settles O21: an index above P7, and then the plan's state. -/
theorem planClearEmptiesThePlan : Obligations.PlanClearEmptiesThePlan := by
  intro s p tag plan hp haccepts
  refine onEvent_command hp haccepts (.planClear plan) ?_
  have hin : p.lnk.intake = [] := haccepts.2.1
  by_cases h : plan.toNat < 8
  · rw [dif_pos h]
    exact runPlanClear_reply (planArg_of_lt h) rfl hin tag [0x31, plan]
  · rw [dif_neg h, runCommand, runPlanClear, planArg_of_ge h]
    exact refuse_holding hin tag _ .badArg

/-! ### PLAN_START -/

/-- A plan names a channel that is not enabled exactly if its set leaves the enabled set (R27). -/
theorem channelSet_outside {a b : ChannelSet} :
    a &&& ~~~b ≠ 0 ↔ ∃ c : Fin 8, a.getLsbD c.val = true ∧ b.getLsbD c.val = false := by
  rw [← not_iff_not]
  simp only [ne_eq, not_not, not_exists, not_and, Bool.not_eq_false]
  constructor
  · intro h c hc
    have hbit := congrArg (fun x => x.getLsbD c.val) h
    simpa [BitVec.getLsbD_and, BitVec.getLsbD_not, hc] using hbit
  · intro h
    refine BitVec.eq_of_getLsbD_eq (fun n hn => ?_)
    have hbit := h ⟨n, hn⟩
    rw [BitVec.getLsbD_and, BitVec.getLsbD_not]
    cases ha : a.getLsbD n with
    | false => simp
    | true => simp [hbit ha]

/-- PLAN_START by the plan's state and definition and the three conditions of a start (R27). -/
theorem runPlanStart_reply {plan : Byte} {i : Fin 8} (hi : planArg plan = some i) {p : Part} {pl : Plan} (hpl : p.plans[i] = pl)
    (hin : p.lnk.intake = []) (tag : Byte) (payload : List Byte) :
    applyReply (runPlanStart plan (p.holding tag payload)) =
      if pl.state = .running ∨ pl.state = .draining then Part.answered tag (payloadCode payload) .busy [] p
      else
        match pl.definition with
        | none => Part.answered tag (payloadCode payload) .badState [] p
        | some d =>
          if pl.state = .empty ∨ p.smp.running = false ∨
              (∃ c : Fin 8, d.channels.getLsbD c.val = true ∧ p.smp.enabled.getLsbD c.val = false) then
            Part.answered tag (payloadCode payload) .badState [] p
          else Part.answered tag (payloadCode payload) .ok [] (startPlan i d p) := by
  have hrefused := refuse_holding hin tag payload
  have hsmp : (p.holding tag payload).smp = p.smp := rfl
  unfold runPlanStart
  rw [hi]
  dsimp only
  rw [plans_holding, hpl]
  by_cases hstops : stopsPlan pl = true
  · rw [if_pos hstops, if_pos (stopsPlan_eq_true.1 hstops)]
    exact hrefused .busy
  rw [if_neg hstops, if_neg (mt stopsPlan_eq_true.2 hstops)]
  cases pl.definition with
  | none => exact hrefused .badState
  | some d =>
    dsimp only
    rw [hsmp]
    by_cases hempty : pl.state = .empty
    · rw [if_pos hempty, if_pos (.inl hempty)]
      exact hrefused .badState
    by_cases hrunning : p.smp.running = false
    · rw [if_neg hempty, if_pos hrunning, if_pos (.inr (.inl hrunning))]
      exact hrefused .badState
    rw [if_neg hempty, if_neg hrunning]
    by_cases houtside : d.channels &&& ~~~p.smp.enabled ≠ 0
    · rw [if_pos houtside, if_pos (.inr (.inr (channelSet_outside.1 houtside)))]
      exact hrefused .badState
    · rw [if_neg houtside, if_neg (not_or.2 ⟨hempty, not_or.2 ⟨hrunning, mt channelSet_outside.2 houtside⟩⟩)]
      exact taken_holding (q := startPlan i d p) hin tag payload

/-- Settles O22: an index above P7, a plan that runs or drains, one without definition, and the conditions of a start. -/
theorem planStartRunsThePlan : Obligations.PlanStartRunsThePlan := by
  intro s p tag plan hp haccepts
  refine onEvent_command hp haccepts (.planStart plan) ?_
  have hin : p.lnk.intake = [] := haccepts.2.1
  by_cases h : plan.toNat < 8
  · rw [dif_pos h]
    exact runPlanStart_reply (planArg_of_lt h) rfl hin tag [0x32, plan]
  · rw [dif_neg h, runCommand, runPlanStart, planArg_of_ge h]
    exact refuse_holding hin tag _ .badArg

/-! ### PLAN_STOP GRACEFUL -/

/-- Two changes of one plan are one. -/
theorem modifyPlan_modifyPlan (i : Fin 8) (f g : Plan → Plan) (p : Part) :
    modifyPlan i g (modifyPlan i f p) = modifyPlan i (fun pl => g (f pl)) p := by
  have hget := modifyPlan_get_self i f p
  unfold modifyPlan at hget ⊢
  rw [hget]
  simp only [Vector.set_set]

/-- A plan that begins to drain goes on to DONE where it is not busy (R29, R30). -/
theorem stopGraceful_running {i : Fin 8} {p : Part} (h : p.plans[i].state = .running) : stopGraceful i p =
    if p.plans[i].openRecord ≠ none ∨ ∃ j ∈ p.jobs, j.plan = i then modifyPlan i (fun pl => { pl with state := .draining }) p
    else postReport (.planState i .done none 0) (modifyPlan i (fun pl => { pl with state := .done }) p) := by
  have hbusy : planBusy (modifyPlan i (fun pl => { pl with state := .draining }) p) i = planBusy p i := by
    unfold planBusy
    rw [modifyPlan_get_self, modifyPlan_jobs]
  have hdraining : (modifyPlan i (fun pl => { pl with state := .draining }) p).plans[i].state = .draining := by
    rw [modifyPlan_get_self]
  unfold stopGraceful planDoneIfIdle
  rw [if_pos h, hbusy, hdraining, modifyPlan_modifyPlan]
  by_cases hb : planBusy p i = true
  · rw [if_pos (planBusy_iff.1 hb), if_neg (by simp [hb])]
  · rw [if_neg (mt planBusy_iff.2 hb), if_pos ⟨rfl, by simpa using hb⟩]

/-- A graceful stop neither reads nor changes the intake queue. -/
theorem stopGraceful_holding (i : Fin 8) (tag : Byte) (payload : List Byte) (p : Part) :
    stopGraceful i (p.holding tag payload) = (stopGraceful i p).holding tag payload := by
  by_cases h : p.plans[i].state = .running
  · have hjobs : (p.holding tag payload).jobs = p.jobs := rfl
    rw [stopGraceful_running h, stopGraceful_running (p := p.holding tag payload) h, plans_holding, hjobs, modifyPlan_holding,
      modifyPlan_holding, postReport_holding]
    split <;> rfl
  · have hsame : ∀ q : Part, q.plans = p.plans → stopGraceful i q = q := fun q hq => if_neg (by rw [hq]; exact h)
    rw [hsame p rfl, hsame (p.holding tag payload) rfl]

/-- A graceful stop leaves the intake queue alone. -/
theorem stopGraceful_intake (i : Fin 8) (p : Part) : (stopGraceful i p).lnk.intake = p.lnk.intake := by
  unfold stopGraceful planDoneIfIdle
  split
  · split <;> simp
  · rfl

/-- PLAN_STOP by its mode: GRACEFUL and ABORT are taken of a plan that runs or drains alone (R29, R31). -/
theorem runPlanStop_plan {plan : Byte} {i : Fin 8} (hi : planArg plan = some i) (p : Part) :
    (runPlanStop plan 0 p = if stopsPlan p.plans[i] = true then taken (stopGraceful i p) else refuse .badState p) ∧
    (runPlanStop plan 1 p = if stopsPlan p.plans[i] = true then takenInTime (stopAbort i p) else refuse .badState p) := by
  unfold runPlanStop
  rw [hi]
  exact ⟨rfl, rfl⟩

/-- PLAN_STOP with an index above P7 (R29, R31). -/
theorem runPlanStop_badArg {plan : Byte} (h : ¬ plan.toNat < 8) (mode : Byte) (p : Part) : runPlanStop plan mode p = refuse .badArg p := by
  unfold runPlanStop
  rw [planArg_of_ge h]

/-- PLAN_STOP GRACEFUL by the plan's state (R29, R30). -/
theorem runPlanStop_graceful_reply {plan : Byte} {i : Fin 8} (hi : planArg plan = some i) {p : Part} {pl : Plan} (hpl : p.plans[i] = pl)
    (hin : p.lnk.intake = []) (tag : Byte) (payload : List Byte) :
    applyReply (runPlanStop plan 0 (p.holding tag payload)) =
      if pl.state = .draining then Part.answered tag (payloadCode payload) .ok [] p
      else if pl.state ≠ .running then Part.answered tag (payloadCode payload) .badState [] p
      else if pl.openRecord ≠ none ∨ ∃ j ∈ p.jobs, j.plan = i then
        Part.answered tag (payloadCode payload) .ok [] (modifyPlan i (fun pl => { pl with state := .draining }) p)
      else
        Part.answered tag (payloadCode payload) .ok []
          (postReport (.planState i .done none 0) (modifyPlan i (fun pl => { pl with state := .done }) p)) := by
  have htaken : stopsPlan pl = true →
      applyReply (runPlanStop plan 0 (p.holding tag payload)) = Part.answered tag (payloadCode payload) .ok [] (stopGraceful i p) := by
    intro hstops
    rw [(runPlanStop_plan hi _).1, plans_holding, hpl, if_pos hstops, stopGraceful_holding]
    exact taken_holding ((stopGraceful_intake i p).trans hin) tag payload
  by_cases hdraining : pl.state = .draining
  · have hsame : stopGraceful i p = p := if_neg (by rw [hpl, hdraining]; nofun)
    rw [htaken (stopsPlan_eq_true.2 (.inr hdraining)), hsame, if_pos hdraining]
  rw [if_neg hdraining]
  by_cases hrunning : pl.state = .running
  · rw [htaken (stopsPlan_eq_true.2 (.inl hrunning)), stopGraceful_running (hpl ▸ hrunning), hpl, if_neg (not_not.2 hrunning)]
    split <;> rfl
  · have hstops : stopsPlan pl = false := stopsPlan_eq_false.2 ⟨hrunning, hdraining⟩
    rw [if_pos hrunning, (runPlanStop_plan hi _).1, plans_holding, hpl, if_neg (by rw [hstops]; nofun)]
    exact refuse_holding hin tag payload .badState

/-- Settles O23: an index above P7, and then the plan's state. -/
theorem planStopGracefulDrainsThePlan : Obligations.PlanStopGracefulDrainsThePlan := by
  intro s p tag plan hp haccepts
  refine onEvent_command hp haccepts (.planStop plan 0) ?_
  have hin : p.lnk.intake = [] := haccepts.2.1
  by_cases h : plan.toNat < 8
  · rw [dif_pos h]
    exact runPlanStop_graceful_reply (planArg_of_lt h) rfl hin tag [0x33, plan, 0]
  · rw [dif_neg h, runCommand, runPlanStop_badArg h]
    exact refuse_holding hin tag _ .badArg

/-! ### PLAN_DEFINE -/

theorem byte_eq_zero {b : Byte} : b = 0 ↔ b.toNat = 0 := by
  rw [BitVec.toNat_eq]
  rfl

theorem byte_eq_one {b : Byte} : b = 1 ↔ b.toNat = 1 := by
  rw [BitVec.toNat_eq]
  rfl

theorem word_eq_zero {w : BitVec 16} : w = 0 ↔ w.toNat = 0 := by
  rw [BitVec.toNat_eq]
  rfl

/-- A yes-no byte read: 0 or 1 (R174). -/
theorem boolArg_eq (b : Byte) : boolArg b = if 1 < b.toNat then none else some (decide (b = 1)) := by
  obtain h | h | ⟨k, h⟩ : b.toNat = 0 ∨ b.toNat = 1 ∨ ∃ k, b.toNat = k + 2 := by
    rcases b.toNat with _ | _ | k <;> simp
  · obtain rfl := byte_eq_zero.2 h
    rfl
  · obtain rfl := byte_eq_one.2 h
    rfl
  · rw [if_pos (by omega), boolArg, h]
    rfl

/-- A lane byte read: L0 or L1 (R174). -/
theorem laneArg_eq (b : Byte) : laneArg b = if 1 < b.toNat then none else some (if b = 0 then 0 else 1) := by
  obtain h | h | h : b.toNat = 0 ∨ b.toNat = 1 ∨ 1 < b.toNat := by omega
  · obtain rfl := byte_eq_zero.2 h
    rfl
  · obtain rfl := byte_eq_one.2 h
    rfl
  · rw [if_pos h]
    exact dif_neg (by omega)

/-- A busy policy byte read (R174). -/
theorem policyArg_eq (b : Byte) : policyArg b = if 1 < b.toNat then none else some (if b = 0 then .queue else .drop) := by
  obtain h | h | ⟨k, h⟩ : b.toNat = 0 ∨ b.toNat = 1 ∨ ∃ k, b.toNat = k + 2 := by
    rcases b.toNat with _ | _ | k <;> simp
  · obtain rfl := byte_eq_zero.2 h
    rfl
  · obtain rfl := byte_eq_one.2 h
    rfl
  · rw [if_pos (by omega), policyArg, h]
    rfl

/-- A run mode read with its count, which only COUNT has (R174). -/
theorem runModeArg_eq (mode count : Byte) : runModeArg mode count =
    if 2 < mode.toNat ∨ (mode = 1 ∧ count.toNat < 2) then none
    else some (if mode = 0 then .single else if mode = 1 then .count count.toNat else .continuous) := by
  obtain h | h | h | ⟨k, h⟩ : mode.toNat = 0 ∨ mode.toNat = 1 ∨ mode.toNat = 2 ∨ ∃ k, mode.toNat = k + 3 := by
    rcases mode.toNat with _ | _ | _ | k <;> simp
  · obtain rfl := byte_eq_zero.2 h
    rfl
  · obtain rfl := byte_eq_one.2 h
    by_cases hcount : 2 ≤ count.toNat
    · rw [if_neg (by rintro (h | ⟨-, h⟩) <;> omega)]
      exact if_pos hcount
    · rw [if_pos (.inr ⟨rfl, by omega⟩)]
      exact if_neg hcount
  · obtain rfl : mode = 2 := BitVec.eq_of_toNat_eq h
    rfl
  · rw [if_pos (.inl (by omega)), runModeArg, h]
    rfl

/-- A decimation byte read (R22). -/
theorem decimationArg_eq (b : Byte) : decimationArg b = if b.toNat ∉ [1, 2, 4, 8, 16] then none else some b.toNat :=
  (ite_not _ _ _).symm

/-- A channel set read (R24). -/
theorem channelSetArg_eq (w : BitVec 16) :
    channelSetArg w = if w = 0 ∨ 255 < w.toNat then none else some (w.extractLsb' 0 8) := by
  unfold channelSetArg
  by_cases h : 0 < w.toNat ∧ w.toNat < 256
  · rw [if_pos h, if_neg (by rw [word_eq_zero]; omega)]
  · rw [if_neg h, if_pos (by rw [word_eq_zero]; omega)]

/-- A source set read (R24). -/
theorem sourceSetArg_eq (w : BitVec 16) :
    sourceSetArg w = if w = 0 ∨ 8191 < w.toNat then none else some (w.extractLsb' 0 13) := by
  unfold sourceSetArg
  by_cases h : 0 < w.toNat ∧ w.toNat < 8192
  · rw [if_pos h, if_neg (by rw [word_eq_zero]; omega)]
  · rw [if_neg h, if_pos (by rw [word_eq_zero]; omega)]

/-- A field of a PLAN_DEFINE lies outside the values of R22 (check 3 of R24). -/
abbrev OutsideValues (d : PlanArgs) : Prop :=
  d.channels = 0 ∨ 255 < d.channels.toNat ∨ d.decimation.toNat ∉ [1, 2, 4, 8, 16] ∨ 16383 < d.pre.toNat ∨
    d.post = 0 ∨ d.sources = 0 ∨ 8191 < d.sources.toNat ∨ 2 < d.runMode.toNat ∨
    (d.runMode = 1 ∧ d.count.toNat < 2) ∨ 1 < d.policy.toNat ∨ 1 < d.lane.toNat ∨ 1 < d.retain.toNat

/-- The same, field by field in the order in which they are read. -/
theorem outsideValues_iff (d : PlanArgs) : OutsideValues d ↔
    (d.channels = 0 ∨ 255 < d.channels.toNat) ∨ d.decimation.toNat ∉ [1, 2, 4, 8, 16] ∨ (d.sources = 0 ∨ 8191 < d.sources.toNat) ∨
      (2 < d.runMode.toNat ∨ (d.runMode = 1 ∧ d.count.toNat < 2)) ∨ 1 < d.policy.toNat ∨ 1 < d.lane.toNat ∨ 1 < d.retain.toNat ∨
      (16383 < d.pre.toNat ∨ d.post = 0) := by
  grind

/-- The definition that the fields of a PLAN_DEFINE stand for where they lie within the values of R22. -/
def definitionOf (d : PlanArgs) : PlanDef :=
  { channels := d.channels.extractLsb' 0 8
    decimation := d.decimation.toNat
    pre := d.pre.toNat
    post := d.post.toNat
    sources := d.sources.extractLsb' 0 13
    runMode := if d.runMode = 0 then .single else if d.runMode = 1 then .count d.count.toNat else .continuous
    policy := if d.policy = 0 then .queue else .drop
    holdoff := d.holdoff.toNat
    lane := if d.lane = 0 then 0 else 1
    retain := decide (d.retain = 1) }

/-- The fields of a PLAN_DEFINE read: none where one is outside its values, else the definition they stand for (R24). -/
theorem planDefArg_eq (d : PlanArgs) : planDefArg d = if OutsideValues d then none else some (definitionOf d) := by
  unfold planDefArg
  rw [channelSetArg_eq, decimationArg_eq, sourceSetArg_eq, runModeArg_eq, policyArg_eq, laneArg_eq, boolArg_eq]
  have hlengths : d.pre.toNat ≤ 16383 ∧ 1 ≤ d.post.toNat ↔ ¬ (16383 < d.pre.toNat ∨ d.post = 0) := by
    rw [word_eq_zero]
    omega
  by_cases hchannels : d.channels = 0 ∨ 255 < d.channels.toNat
  · have hout : OutsideValues d := (outsideValues_iff d).2 (.inl hchannels)
    simp only [if_pos hchannels, if_pos hout]
  by_cases hdecimation : d.decimation.toNat ∉ [1, 2, 4, 8, 16]
  · have hout : OutsideValues d := (outsideValues_iff d).2 (.inr (.inl hdecimation))
    simp only [if_neg hchannels, if_pos hdecimation, if_pos hout]
  by_cases hsources : d.sources = 0 ∨ 8191 < d.sources.toNat
  · have hout : OutsideValues d := (outsideValues_iff d).2 (.inr (.inr (.inl hsources)))
    simp only [if_neg hchannels, if_neg hdecimation, if_pos hsources, if_pos hout]
  by_cases hmode : 2 < d.runMode.toNat ∨ (d.runMode = 1 ∧ d.count.toNat < 2)
  · have hout : OutsideValues d := (outsideValues_iff d).2 (.inr (.inr (.inr (.inl hmode))))
    simp only [if_neg hchannels, if_neg hdecimation, if_neg hsources, if_pos hmode, if_pos hout]
  by_cases hpolicy : 1 < d.policy.toNat
  · have hout : OutsideValues d := (outsideValues_iff d).2 (.inr (.inr (.inr (.inr (.inl hpolicy)))))
    simp only [if_neg hchannels, if_neg hdecimation, if_neg hsources, if_neg hmode, if_pos hpolicy, if_pos hout]
  by_cases hlane : 1 < d.lane.toNat
  · have hout : OutsideValues d := (outsideValues_iff d).2 (.inr (.inr (.inr (.inr (.inr (.inl hlane))))))
    simp only [if_neg hchannels, if_neg hdecimation, if_neg hsources, if_neg hmode, if_neg hpolicy, if_pos hlane, if_pos hout]
  rw [if_neg hchannels, if_neg hdecimation, if_neg hsources, if_neg hmode, if_neg hpolicy, if_neg hlane]
  by_cases hretain : 1 < d.retain.toNat
  · have hout : OutsideValues d := (outsideValues_iff d).2 (.inr (.inr (.inr (.inr (.inr (.inr (.inl hretain)))))))
    simp only [if_pos hretain, if_pos hout]
  rw [if_neg hretain]
  by_cases hfit : 16383 < d.pre.toNat ∨ d.post = 0
  · have hout : OutsideValues d := (outsideValues_iff d).2 (.inr (.inr (.inr (.inr (.inr (.inr (.inr hfit)))))))
    simp only [if_neg (mt hlengths.1 (not_not.2 hfit)), if_pos hout]
  · have hin : ¬ OutsideValues d := by
      simp only [outsideValues_iff, not_or] at hchannels hsources hmode hfit ⊢
      exact ⟨hchannels, hdecimation, hsources, hmode, hpolicy, hlane, hretain, hfit⟩
    simp only [if_pos (hlengths.2 hfit), if_neg hin]
    rfl

/-- Checks 4 and 5 of a PLAN_DEFINE: the two lengths, and 1,024 blocks as 262,144 words (R24, R6). -/
theorem definitionFits_definitionOf (d : PlanArgs) : definitionFits (definitionOf d) = true ↔
    ¬ (d.pre.toNat % d.decimation.toNat ≠ 0 ∨ d.post.toNat % d.decimation.toNat ≠ 0) ∧
      ¬ 262144 < (channelList (d.channels.extractLsb' 0 8)).length * ((d.pre.toNat + d.post.toNat) / d.decimation.toNat) := by
  have hblocks : ∀ words : Nat, blocksFor words ≤ Config.blockCount ↔ ¬ 262144 < words := by
    intro words
    unfold blocksFor Config.blockWords Config.blockCount
    omega
  simp only [definitionFits, definitionOf, recordWords, Bool.and_eq_true, beq_iff_eq, decide_eq_true_eq, hblocks, not_or, ne_eq, not_not]

/-- PLAN_DEFINE by the plan's state and the fields of the definition (R24, R25). -/
theorem runPlanDefine_reply {plan : Byte} {i : Fin 8} (hi : planArg plan = some i) {p : Part} {pl : Plan} (hpl : p.plans[i] = pl)
    (hin : p.lnk.intake = []) (tag : Byte) (payload : List Byte) (d : PlanArgs) :
    applyReply (runPlanDefine plan d (p.holding tag payload)) =
      if pl.state = .running ∨ pl.state = .draining then Part.answered tag (payloadCode payload) .busy [] p
      else if OutsideValues d then Part.answered tag (payloadCode payload) .badArg [] p
      else if d.pre.toNat % d.decimation.toNat ≠ 0 ∨ d.post.toNat % d.decimation.toNat ≠ 0 then
        Part.answered tag (payloadCode payload) .badArg [] p
      else if 262144 < (channelList (d.channels.extractLsb' 0 8)).length *
          ((d.pre.toNat + d.post.toNat) / d.decimation.toNat) then Part.answered tag (payloadCode payload) .badArg [] p
      else Part.answered tag (payloadCode payload) .ok [] (modifyPlan i (definedPlan (definitionOf d)) p) := by
  have hrefused := refuse_holding hin tag payload
  unfold runPlanDefine
  rw [hi]
  dsimp only
  rw [plans_holding, hpl, planDefArg_eq]
  by_cases hstops : stopsPlan pl = true
  · rw [if_pos hstops, if_pos (stopsPlan_eq_true.1 hstops)]
    exact hrefused .busy
  rw [if_neg hstops, if_neg (mt stopsPlan_eq_true.2 hstops)]
  by_cases hout : OutsideValues d
  · rw [if_pos hout, if_pos hout]
    exact hrefused .badArg
  rw [if_neg hout, if_neg hout]
  dsimp only
  by_cases hfits : definitionFits (definitionOf d) = true
  · obtain ⟨hlengths, hwords⟩ := (definitionFits_definitionOf d).1 hfits
    rw [if_pos hfits, if_neg hlengths, if_neg hwords]
    exact taken_holding (q := modifyPlan i (definedPlan (definitionOf d)) p) hin tag payload
  · rw [if_neg hfits]
    refine (hrefused .badArg).trans ?_
    by_cases hlengths : d.pre.toNat % d.decimation.toNat ≠ 0 ∨ d.post.toNat % d.decimation.toNat ≠ 0
    · rw [if_pos hlengths]
    · rw [if_neg hlengths, if_pos (not_not.1 (fun hwords => hfits ((definitionFits_definitionOf d).2 ⟨hlengths, hwords⟩)))]

/-- Settles O20: an index above P7, a plan that runs or drains, then the values, the two lengths and the memory of the definition. -/
theorem planDefineWritesTheWholeDefinition : Obligations.PlanDefineWritesTheWholeDefinition := by
  intro s p tag plan d hp haccepts
  refine onEvent_command hp haccepts (.planDefine plan d) ?_
  have hin : p.lnk.intake = [] := haccepts.2.1
  by_cases h : plan.toNat < 8
  · rw [dif_pos h]
    exact runPlanDefine_reply (planArg_of_lt h) rfl hin tag _ d
  · rw [dif_neg h, runCommand, runPlanDefine, planArg_of_ge h]
    exact refuse_holding hin tag _ .badArg

end Sys2Proof.Machine
end

section
/-!
SUPPORT. The seal of a window (R73): what steps 1 to 6 leave, operation by operation, and that it is what SealedFrom says.
-/

namespace Sys2Proof.Machine

/-! ### Locks (R68) -/

theorem mem_channelList {set : ChannelSet} {c : Fin 8} : c ∈ channelList set ↔ set.getLsbD c.val = true := by
  simp [channelList]

theorem channelList_nodup (set : ChannelSet) : (channelList set).Nodup :=
  (List.nodup_finRange 8).filter _

/-- Locks lowered once for each channel of a list, none of them twice. -/
theorem foldl_lowerLock : ∀ {l : List (Fin 8)}, l.Nodup → ∀ (p : Part) (c : Fin 8),
    (l.foldl (fun p c => modifyChannel c (fun ch => { ch with lockCount := ch.lockCount - 1 }) p) p).channels[c] =
      { p.channels[c] with lockCount := p.channels[c].lockCount - (if c ∈ l then 1 else 0) }
  | [], _, _, _ => rfl
  | a :: l, hl, p, c => by
    obtain ⟨ha, hl⟩ := List.nodup_cons.1 hl
    rw [List.foldl_cons, foldl_lowerLock hl, modifyChannel_get]
    by_cases hc : a = c
    · subst hc
      rw [if_pos rfl, if_neg ha, if_pos List.mem_cons_self]
      rfl
    · rw [if_neg hc]
      simp only [List.mem_cons, Ne.symm hc, false_or]

/-- The locks of the channels of a set lowered by 1 (R68). -/
theorem lowerLocks_get (set : ChannelSet) (p : Part) (c : Fin 8) : (lowerLocks set p).channels[c] =
    { p.channels[c] with lockCount := p.channels[c].lockCount - (if set.getLsbD c.val then 1 else 0) } := by
  unfold lowerLocks
  rw [foldl_lowerLock (channelList_nodup set)]
  simp only [mem_channelList]

/-- Locks lowered depend on the channels alone. -/
theorem lowerLocks_channels_congr (set : ChannelSet) {p q : Part} (h : q.channels = p.channels) :
    (lowerLocks set q).channels = (lowerLocks set p).channels := by
  refine Vector.ext fun c hc => ?_
  have hq := lowerLocks_get set q ⟨c, hc⟩
  have hp := lowerLocks_get set p ⟨c, hc⟩
  rw [h] at hq
  exact hq.trans hp.symm

/-! ### The record of a seal (R73 step 1, R74, R75, R4) -/

/-- Two changes of the first match are one, where the first keeps the key. -/
theorem modifyFirst_modifyFirst {α : Type} {q : α → Bool} {f : α → α} (g : α → α) (hf : ∀ a, q (f a) = q a) :
    ∀ l : List α, modifyFirst q g (modifyFirst q f l) = modifyFirst q (fun a => g (f a)) l
  | [] => rfl
  | a :: l => by
    by_cases ha : q a = true
    · simp [modifyFirst, ha, hf]
    · simp [modifyFirst, ha, modifyFirst_modifyFirst g hf l]

/-- The segments that a seal before the end keeps: the first, and of the others those that begin at a stored frame (R74). -/
theorem trimSegments_eq (frames : Nat) (segs : List Segment) :
    trimSegments frames segs = segs.take 1 ++ (segs.drop 1).filter (fun g => decide (g.frame < frames)) := by
  cases segs <;> rfl

/-- The record as steps 1 and 2 of a seal leave it (R73, R74, R75, R4). -/
theorem sealedAs_eq (x : Window) (r : Record) :
    { sealedRecord x r with chain := (sealedRecord x r).chain.take (blocksFor (sealedRecord x r).words) } = sealedAs x r := by
  unfold sealedRecord sealedAs sealFlags
  by_cases h : x.phase = .ended
  · simp [h, blocksFor, Config.blockWords]
  · simp [h, blocksFor, Config.blockWords, trimSegments_eq]

/-- Steps 1 and 2 of a seal: the record sealed and its chain trimmed. -/
theorem trimChain_sealed {p : Part} {x : Window} {r : Record} (hr : findRecord p x.recordId = some r) :
    trimChain x.recordId (modifyRecord x.recordId (sealedRecord x) p) =
      { modifyRecord x.recordId (sealedAs x) p with freeList := p.freeList ++ r.chain.drop ((r.words + 255) / 256) } := by
  have hfound : findRecord (modifyRecord x.recordId (sealedRecord x) p) x.recordId = some (sealedRecord x r) := by
    rw [findRecord_modifyRecord _ (sealedRecord x) (fun _ => rfl), hr]
    rfl
  have hrecords := modifyFirst_modifyFirst (q := fun y : Record => y.id == x.recordId) (f := sealedRecord x)
    (fun r => { r with chain := r.chain.take (blocksFor r.words) }) (fun _ => rfl) p.records
  simp only [sealedAs_eq] at hrecords
  unfold trimChain
  rw [hfound]
  simp only [modifyRecord, hrecords]
  rfl

/-- The part after steps 1 to 5 of a seal, before its report and the hand-off (R73). -/
def sealClosed (w : Fin 4) (x : Window) (r : Record) (p : Part) : Part :=
  { p with
    records := modifyFirst (fun y => y.id == x.recordId) (sealedAs x) p.records
    freeList := p.freeList ++ r.chain.drop ((r.words + 255) / 256)
    channels := (lowerLocks x.channels p).channels
    slots := p.slots.set w.val none
    plans := p.plans.set x.plan.val { p.plans[x.plan] with openRecord := none } }

/-- The report of a seal (R73 step 6). -/
def sealReport (x : Window) (r : Record) : Report :=
  .recordSealed r.id r.plan r.lane (sealedAs x r).flags r.words

/-- The sealed record is found as sealed. -/
theorem findRecord_sealClosed {p : Part} {x : Window} {r : Record} (hr : findRecord p x.recordId = some r) (w : Fin 4) :
    findRecord (sealClosed w x r p) x.recordId = some (sealedAs x r) := by
  have hfound := findRecord_modifyRecord x.recordId (sealedAs x) (fun _ => rfl) p
  rw [hr] at hfound
  exact hfound

/-- Steps 1 to 6 of a seal: the part closed, the report posted, the record handed off (R73). -/
theorem sealRecord_eq {p : Part} {x : Window} {r : Record} (hr : findRecord p x.recordId = some r) (w : Fin 4) :
    sealRecord w x p = handOff r.lane x.recordId (postReport (sealReport x r) (sealClosed w x r p)) := by
  have hclosed : modifyPlan x.plan (fun pl => { pl with openRecord := none })
      (setSlot w none (lowerLocks x.channels (trimChain x.recordId (modifyRecord x.recordId (sealedRecord x) p)))) = sealClosed w x r p := by
    have hlocks := lowerLocks_channels_congr x.channels (p := p) (q := trimChain x.recordId (modifyRecord x.recordId (sealedRecord x) p))
      (by rw [trimChain_sealed hr]; rfl)
    rw [lowerLocks_frame, hlocks, trimChain_sealed hr]
    rfl
  have hfound := findRecord_sealClosed hr w
  unfold sealRecord
  simp only [hclosed, hfound]
  rw [← findRecord_id hr]
  rfl

/-! ### The hand-off of a record found (R83, R84, R88) -/

/-- The lanes and the records that a check of the staging leaves depend on the lanes and the records alone. -/
theorem beginStaging_congr (l : Fin 2) {p q : Part} (hlanes : q.lanes = p.lanes) (hrecords : q.records = p.records) :
    (beginStaging l q).lanes = (beginStaging l p).lanes ∧ (beginStaging l q).records = (beginStaging l p).records := by
  have hfind : ∀ id, findRecord q id = findRecord p id := fun id => by rw [findRecord, findRecord, hrecords]
  unfold beginStaging
  simp only [hlanes, hfind]
  cases stagingTarget p.lanes[l] with
  | none => exact ⟨hlanes, hrecords⟩
  | some b =>
    cases currentDue p.lanes[l] with
    | some c =>
      dsimp only
      cases findRecord p c.recordId with
      | none => exact ⟨hlanes, hrecords⟩
      | some r => exact ⟨by simp only [stageCurrent, modifyLane, hlanes], hrecords⟩
    | none =>
      cases p.lanes[l].queue with
      | nil => exact ⟨hlanes, hrecords⟩
      | cons id rest =>
        dsimp only
        cases findRecord p id with
        | none => exact ⟨hlanes, hrecords⟩
        | some r => exact ⟨by simp only [stageHead, modifyLane, modifyRecord, hlanes], by simp only [stageHead, modifyLane, modifyRecord, hrecords]⟩

/-- A check of a lane's staging leaves the other lane alone. -/
theorem beginStaging_otherLane {l k : Fin 2} (h : l ≠ k) (p : Part) : (beginStaging l p).lanes[k] = p.lanes[k] := by
  rcases beginStaging_spec l p with hb | ⟨b, c, r, -, -, -, hb⟩ | ⟨b, id, rest, r, -, -, -, -, hb⟩ <;> rw [hb]
  · exact modifyLane_get_other h _ _
  · exact modifyLane_get_other h _ _

/-- A check of a lane's staging changes no record but the one at the head of the lane's queue, which it may send. -/
theorem beginStaging_records (l : Fin 2) (p : Part) :
    ((beginStaging l p).records = p.records ∧ (beginStaging l p).lanes[l].queue = p.lanes[l].queue) ∨
      ∃ id rest, p.lanes[l].queue = id :: rest ∧ (beginStaging l p).records = (modifyRecord id recordSending p).records ∧
        (beginStaging l p).lanes[l].queue = rest := by
  rcases beginStaging_spec l p with hb | ⟨b, c, r, -, -, -, hb⟩ | ⟨b, id, rest, r, -, -, hq, hr, hb⟩ <;> rw [hb]
  · exact .inl ⟨rfl, rfl⟩
  · exact .inl ⟨rfl, by rw [stageCurrent, modifyLane_get_self]⟩
  · obtain rfl : r.id = id := findRecord_id hr
    refine .inr ⟨r.id, rest, hq, rfl, ?_⟩
    rw [stageHead, modifyLane_get_self]
    exact congrArg List.tail hq

/-- What is found under an ID depends on the records alone. -/
theorem findRecord_congr {p q : Part} (h : q.records = p.records) (id : Nat) : findRecord q id = findRecord p id := by
  rw [findRecord, findRecord, h]

/-- What a hand-off to a lane does to the records: none changes and the record waits at the queue's tail, or the head of the queue goes out and
the record waits behind it, or the record itself goes out. -/
theorem handOff_records (l : Fin 2) (id : Nat) (p : Part) :
    ((handOff l id p).records = p.records ∧ id ∈ (handOff l id p).lanes[l].queue) ∨
    (∃ head ∈ p.lanes[l].queue, (handOff l id p).records = (modifyRecord head recordSending p).records ∧
      id ∈ (handOff l id p).lanes[l].queue) ∨
    (handOff l id p).records = (modifyRecord id recordSending p).records := by
  have hqueue := congrArg Lane.queue (modifyLane_get_self l (fun ln => { ln with queue := ln.queue ++ [id] }) p)
  unfold handOff
  generalize hu : modifyLane l (fun ln => { ln with queue := ln.queue ++ [id] }) p = u at hqueue
  have hrecords : u.records = p.records := by rw [← hu, modifyLane_records]
  have hsent : ∀ k, (modifyRecord k recordSending u).records = (modifyRecord k recordSending p).records := by
    intro k
    simp only [modifyRecord, hrecords]
  rcases beginStaging_records l u with ⟨hsame, hq⟩ | ⟨head, rest, hq, hhead, hrest⟩
  · refine .inl ⟨hsame.trans hrecords, ?_⟩
    rw [hq, hqueue]
    simp
  · rw [hqueue] at hq
    cases hold : p.lanes[l].queue with
    | nil =>
      simp only [hold, List.nil_append, List.cons.injEq] at hq
      exact .inr (.inr (by rw [hhead, hsent, hq.1]))
    | cons first others =>
      simp only [hold, List.cons_append, List.cons.injEq] at hq
      refine .inr (.inl ⟨first, List.mem_cons_self, by rw [hhead, hsent, hq.1], ?_⟩)
      rw [hrest, ← hq.2]
      simp

/-- The record handed off waits in its lane's queue, or has become the lane's current record (R83, R84). -/
theorem findRecord_handOff_self {l : Fin 2} {id : Nat} {r : Record} {p : Part} (hr : findRecord p id = some r) :
    (findRecord (handOff l id p) id = some r ∧ id ∈ (handOff l id p).lanes[l].queue) ∨
      findRecord (handOff l id p) id = some (sendingOf r) := by
  have hsent : findRecord (modifyRecord id recordSending p) id = some (sendingOf r) := by
    rw [findRecord_modifyRecord id recordSending (fun _ => rfl), hr]
    rfl
  rcases handOff_records l id p with ⟨hrecords, hq⟩ | ⟨head, -, hrecords, hq⟩ | hrecords
  · exact .inl ⟨(findRecord_congr hrecords id).trans hr, hq⟩
  · by_cases hid : id = head
    · subst hid
      exact .inr ((findRecord_congr hrecords id).trans hsent)
    · exact .inl ⟨((findRecord_congr hrecords id).trans (findRecord_modifyRecord_other hid recordSending (fun _ => rfl) p)).trans hr, hq⟩
  · exact .inr ((findRecord_congr hrecords id).trans hsent)

/-- A hand-off leaves every record alone that neither is the one handed off nor waits in the lane's queue. -/
theorem findRecord_handOff_other {l : Fin 2} {id other : Nat} {p : Part} (hother : other ≠ id) (hqueue : other ∉ p.lanes[l].queue) :
    findRecord (handOff l id p) other = findRecord p other := by
  rcases handOff_records l id p with ⟨hrecords, -⟩ | ⟨head, hhead, hrecords, -⟩ | hrecords
  · exact findRecord_congr hrecords other
  · have hne : other ≠ head := fun e => hqueue (e ▸ hhead)
    exact (findRecord_congr hrecords other).trans (findRecord_modifyRecord_other hne recordSending (fun _ => rfl) p)
  · exact (findRecord_congr hrecords other).trans (findRecord_modifyRecord_other hother recordSending (fun _ => rfl) p)

/-! ### The seal as SealedFrom says it -/

/-- The link that a post leaves depends on the link alone. -/
theorem postReport_lnk_congr (r : Report) {p q : Part} (h : q.lnk = p.lnk) : (postReport r q).lnk = (postReport r p).lnk := by
  unfold postReport
  rw [h]
  split <;> rfl

/-- A post changes the link alone. -/
theorem postReport_frame (r : Report) (p : Part) : postReport r p = { p with lnk := (postReport r p).lnk } := by
  unfold postReport
  split <;> rfl

/-- Steps 1 to 6 of the seal of a window with a live record leave what SealedFrom says (R73, R74, R75, R4, R68). -/
theorem sealedFrom_sealRecord {p : Part} {x : Window} {r : Record} (hr : findRecord p x.recordId = some r) (w : Fin 4) :
    SealedFrom w x r p (sealRecord w x p) := by
  have hfound : findRecord (postReport (sealReport x r) (sealClosed w x r p)) x.recordId = some (sealedAs x r) :=
    (findRecord_congr (postReport_records _ _) _).trans (findRecord_sealClosed hr w)
  have hid : r.id = x.recordId := findRecord_id hr
  rw [sealRecord_eq hr]
  generalize hu : postReport (sealReport x r) (sealClosed w x r p) = u at hfound
  have hframe : u = { sealClosed w x r p with lnk := (postReport (sealReport x r) p).lnk } := by
    have hlnk := postReport_lnk_congr (sealReport x r) (p := p) (q := sealClosed w x r p) rfl
    rw [← hu, postReport_frame, hlnk]
  have hlanes : u.lanes = p.lanes := by rw [hframe]; rfl
  have hrecords : u.records = (modifyRecord x.recordId (sealedAs x) p).records := by rw [hframe]; rfl
  have hq := handOff_frame r.lane x.recordId u
  constructor
  case record => exact findRecord_handOff_self hfound
  case header =>
    intro ln hcurrent hempty hawaiting hbuffer
    have hln : u.lanes[r.lane] = ln := by rw [hlanes]
    have hnotDue : currentDue ln = none := currentDue_none (by simp [hcurrent])
    rw [handOff_sends (b := ln.seq) hfound (by rw [hln]; exact stagingTarget_send hawaiting hbuffer) (by rw [hln]; exact hnotDue)
      (by rw [hln]; exact hempty)]
    constructor
    · rw [findRecord_modifyRecord _ recordSending (fun _ => rfl), findRecord_congr (modifyLane_records _ _ _), hfound]
      rfl
    · refine (modifyLane_get_self _ _ _).trans ?_
      rw [hln]
  case otherRecords =>
    intro id hne hqueue
    rw [findRecord_handOff_other hne (by rw [hlanes]; exact hqueue), findRecord_congr hrecords]
    exact findRecord_modifyRecord_other hne (sealedAs x) (fun _ => rfl) p
  case otherLane =>
    have hne : r.lane ≠ 1 - r.lane := by omega
    unfold handOff
    rw [beginStaging_otherLane hne, modifyLane_get_other hne, hlanes]
  case handOver =>
    simp only [handedOver, handOff, hr, hid]
    exact (beginStaging_congr r.lane (by simp only [modifyLane, hlanes]) (by rw [modifyLane_records, hrecords]; rfl)).symm
  case freeList =>
    rw [hq, hframe]
    rfl
  case locks =>
    intro c
    rw [hq, hframe]
    exact lowerLocks_get x.channels p c
  case plans =>
    rw [hq, hframe]
    rfl
  case reports =>
    rw [hq, hframe]
    rfl
  case rest =>
    rw [hq, hframe]
    rfl

end Sys2Proof.Machine
end

section
/-!
SUPPORT. PLAN_STOP ABORT (R31): the plan's jobs removed, its window sealed, the plan halted; and the obligation O24.
-/

namespace Sys2Proof.Machine

/-- The part without the pending jobs of a plan (R31). -/
def withoutJobs (i : Fin 8) (p : Part) : Part :=
  { p with jobs := p.jobs.filter (fun j => decide (j.plan ≠ i)) }

/-- The jobs that an abort keeps, in their order. -/
theorem withoutJobs_eq (i : Fin 8) (p : Part) : { p with jobs := p.jobs.filter (fun j => j.plan != i) } = withoutJobs i p := by
  have hkeeps : (fun j : Job => j.plan != i) = fun j => decide (j.plan ≠ i) := funext fun j => Bool.eq_iff_iff.2 (by simp)
  rw [withoutJobs, hkeeps]

/-- An abort of a plan without a window (R31). -/
theorem stopAbort_noWindow {i : Fin 8} {p : Part} (h : planSlot p i = none) :
    stopAbort i p =
      if p.jobsPending i = 0 then haltPlan i .hostAbort (p.jobsPending i) (withoutJobs i p)
      else reexamine (haltPlan i .hostAbort (p.jobsPending i) (withoutJobs i p)) := by
  have hslot : planSlot (withoutJobs i p) i = none := h
  unfold stopAbort
  simp only [withoutJobs_eq, hslot]
  by_cases hnone : p.jobsPending i = 0
  · rw [if_pos hnone, if_pos hnone, hnone]
  · rw [if_neg hnone, if_neg hnone]

/-- An abort of a plan with a window (R31, R73). -/
theorem stopAbort_window {i : Fin 8} {p : Part} {w : Fin 4} {x : Window} (h : planSlot p i = some w) (hw : p.slots[w] = some x) :
    stopAbort i p = reexamine (haltPlan i .hostAbort (p.jobsPending i) (reexamine (sealRecord w x (withoutJobs i p)))) := by
  have hslot : planSlot (withoutJobs i p) i = some w := h
  have hseal : sealWindow false w (withoutJobs i p) = reexamine (sealRecord w x (withoutJobs i p)) := sealWindow_false hw
  unfold stopAbort
  simp only [withoutJobs_eq, hslot, hseal]

/-- A plan without a window in any slot (R26). -/
theorem planSlot_eq_none {p : Part} {i : Fin 8} (h : ∀ (w : Fin 4) (x : Window), p.slots[w] = some x → x.plan ≠ i) : planSlot p i = none := by
  refine List.find?_eq_none.2 fun w _ hw => ?_
  obtain ⟨x, hx, hplan⟩ : ∃ x, p.slots[w] = some x ∧ x.plan = i := by simpa [Option.any_eq_true] using hw
  exact h w x hx hplan

/-- The slot of a plan's window, where no other slot holds one of the plan. -/
theorem planSlot_eq_some {p : Part} {i : Fin 8} {w : Fin 4} {x : Window} (hw : p.slots[w] = some x) (hplan : x.plan = i)
    (hother : ∀ (v : Fin 4) (y : Window), v ≠ w → p.slots[v] = some y → y.plan ≠ i) : planSlot p i = some w := by
  cases hslot : planSlot p i with
  | none => exact absurd (List.find?_eq_none.1 hslot w (mem_allSlots w)) (by simp [hw, hplan])
  | some v =>
    obtain ⟨y, hy, hyplan⟩ := planSlot_some hslot
    by_cases hv : v = w
    · rw [hv]
    · exact absurd hyplan (hother v y hv hy)

/-! ### The command in execution (R161) -/

theorem haltPlan_holding (i : Fin 8) (reason : PlanHalt) (removed : Nat) (tag : Byte) (payload : List Byte) (p : Part) :
    haltPlan i reason removed (p.holding tag payload) = (haltPlan i reason removed p).holding tag payload := by
  unfold haltPlan
  rw [modifyPlan_holding, postReport_holding]

theorem sealClosed_holding (w : Fin 4) (x : Window) (r : Record) (tag : Byte) (payload : List Byte) (p : Part) :
    sealClosed w x r (p.holding tag payload) = (sealClosed w x r p).holding tag payload := by
  have hlocks := lowerLocks_channels_congr x.channels (p := p) (q := p.holding tag payload) rfl
  unfold sealClosed
  rw [hlocks]
  rfl

theorem sealRecord_holding {p : Part} {x : Window} {r : Record} (hr : findRecord p x.recordId = some r) (w : Fin 4) (tag : Byte)
    (payload : List Byte) : sealRecord w x (p.holding tag payload) = (sealRecord w x p).holding tag payload := by
  have hheld : findRecord (p.holding tag payload) x.recordId = some r := hr
  rw [sealRecord_eq hr, sealRecord_eq hheld, sealClosed_holding, postReport_holding, handOff_holding]

/-- An abort leaves the command in its place, where a window that it seals has its record. -/
theorem stopAbort_holding {i : Fin 8} {p : Part}
    (hlive : ∀ (w : Fin 4) (x : Window), planSlot p i = some w → p.slots[w] = some x → ∃ r, findRecord p x.recordId = some r)
    (tag : Byte) (payload : List Byte) : stopAbort i (p.holding tag payload) = (stopAbort i p).holding tag payload := by
  have hslot : planSlot (p.holding tag payload) i = planSlot p i := rfl
  have hjobs : (p.holding tag payload).jobsPending i = p.jobsPending i := rfl
  have hkept : withoutJobs i (p.holding tag payload) = (withoutJobs i p).holding tag payload := rfl
  cases hown : planSlot p i with
  | none =>
    rw [stopAbort_noWindow hown, stopAbort_noWindow (hslot.trans hown), hjobs, hkept, haltPlan_holding, reexamine_holding]
    split <;> rfl
  | some w =>
    obtain ⟨x, hw, -⟩ := planSlot_some hown
    have hwheld : (p.holding tag payload).slots[w] = some x := hw
    obtain ⟨r, hr⟩ := hlive w x hown hw
    have hfound : findRecord (withoutJobs i p) x.recordId = some r := hr
    rw [stopAbort_window hown hw, stopAbort_window (hslot.trans hown) hwheld, hjobs, hkept, sealRecord_holding hfound, reexamine_holding,
      haltPlan_holding, reexamine_holding]

/-- PLAN_STOP ABORT of a RUNNING or DRAINING plan: the abort is done and the command stays in execution (R31, R161). -/
theorem runPlanStop_abort_reply {plan : Byte} {i : Fin 8} (hi : planArg plan = some i) {p : Part}
    (hstops : p.plans[i].state = .running ∨ p.plans[i].state = .draining)
    (hlive : ∀ (w : Fin 4) (x : Window), planSlot p i = some w → p.slots[w] = some x → ∃ r, findRecord p x.recordId = some r)
    (tag : Byte) (payload : List Byte) :
    applyReply (runPlanStop plan 1 (p.holding tag payload)) = Part.begun tag payload (stopAbort i p) := by
  rw [(runPlanStop_plan hi _).2, plans_holding, if_pos (stopsPlan_eq_true.2 hstops), stopAbort_holding hlive, begin_holding]

/-- Settles O24: an index above P7, a plan that neither runs nor drains, and then whether the plan has a window. -/
theorem planStopAbortHaltsThePlan : Obligations.PlanStopAbortHaltsThePlan := by
  intro s p tag plan hp haccepts
  have hin : p.lnk.intake = [] := haccepts.2.1
  refine ⟨fun h => onEvent_command hp haccepts (.planStop plan 1) ?_, fun i hi => ?_⟩
  · rw [runCommand, runPlanStop_badArg (Nat.not_lt.2 h)]
    exact refuse_holding hin tag _ .badArg
  have harg : planArg plan = some i := (planArg_of_lt (hi ▸ i.isLt)).trans (congrArg some (Fin.ext hi.symm))
  refine ⟨fun hidle => onEvent_command hp haccepts (.planStop plan 1) ?_, fun hstops =>
    ⟨fun hnone => onEvent_command hp haccepts (.planStop plan 1) ?_, fun w x r hw hplan hr hother =>
      ⟨sealRecord w x (withoutJobs i p), sealedFrom_sealRecord (p := withoutJobs i p) hr w,
        onEvent_command hp haccepts (.planStop plan 1) ?_⟩⟩⟩
  · rw [runCommand, (runPlanStop_plan harg _).2, plans_holding, if_neg (by rw [stopsPlan_eq_false.2 hidle]; nofun)]
    exact refuse_holding hin tag _ .badState
  · have hslot := planSlot_eq_none hnone
    refine (runPlanStop_abort_reply harg hstops (by rw [hslot]; nofun) tag [0x33, plan, 1]).trans ?_
    rw [stopAbort_noWindow hslot]
    rfl
  · have hslot := planSlot_eq_some hw hplan hother
    have hlive : ∀ (v : Fin 4) (y : Window), planSlot p i = some v → p.slots[v] = some y → ∃ r, findRecord p y.recordId = some r := by
      intro v y hv hy
      obtain rfl : w = v := Option.some.inj (hslot.symm.trans hv)
      obtain rfl : x = y := Option.some.inj (hw.symm.trans hy)
      exact ⟨r, hr⟩
    refine (runPlanStop_abort_reply harg hstops hlive tag [0x33, plan, 1]).trans ?_
    rw [stopAbort_window hslot hw]
    rfl

end Sys2Proof.Machine
end

section
/-!
SUPPORT. The Trigger Unit's own events and commands: an edge on an external line, and EXTLINE_SET, DETECTOR_SET and TRIGGER.
-/

namespace Sys2Proof.Machine

/-! ### EXT_EDGE (R42) -/

/-- The edges that each selection accepts (R42). -/
theorem edgeMatches_eq (sel : EdgeSel) (level : Bool) : edgeMatches sel level =
    (decide (sel = .both) || (decide (sel = .rising) && level) || (decide (sel = .falling) && !level)) := by
  cases sel <;> simp [edgeMatches]

/-- A line after an edge, field by field: without a change of level there is no edge to accept (R42). -/
theorem edgeOnLine_eq (running level : Bool) (x : ExtLine) : edgeOnLine running level x = { x with
    level := level
    reference := level
    latch := x.latch || (decide (x.reference ≠ level) && x.enabled && running && edgeMatches x.edge level) } := by
  unfold edgeOnLine
  by_cases h : x.reference = level
  · rw [if_pos h]
    simp [h]
  · rw [if_neg h]
    simp [h]

/-- Settles O5: the line after the edge, field by field. -/
theorem extEdgeUpdatesLevelAndLatch : Obligations.ExtEdgeUpdatesLevelAndLatch := by
  rintro s p n level rfl x
  have hline := edgeOnLine_eq (arbitrated s.part).smp.running level x
  rw [edgeMatches_eq] at hline
  rw [← hline]
  exact onEvent_eq _ s

/-! ### Arguments (R174) -/

/-- A byte is 0, 1, 2 or more. -/
theorem byte_cases (b : Byte) : b = 0 ∨ b = 1 ∨ b = 2 ∨ ∃ k, b.toNat = k + 3 := by
  obtain h | h | h | h : b.toNat = 0 ∨ b.toNat = 1 ∨ b.toNat = 2 ∨ 3 ≤ b.toNat := by omega
  · exact .inl (byte_eq_zero.2 h)
  · exact .inr (.inl (byte_eq_one.2 h))
  · exact .inr (.inr (.inl (BitVec.eq_of_toNat_eq h)))
  · exact .inr (.inr (.inr ⟨b.toNat - 3, by omega⟩))

/-- An edge byte read (R174). -/
theorem edgeArg_eq (b : Byte) : edgeArg b =
    if 2 < b.toNat then none else some (if b = 0 then .rising else if b = 1 then .falling else .both) := by
  obtain rfl | rfl | rfl | ⟨k, h⟩ := byte_cases b
  · rfl
  · rfl
  · rfl
  · rw [if_pos (by omega), edgeArg, h]
    rfl

/-- A direction byte read (R174). -/
theorem directionArg_eq (b : Byte) : directionArg b =
    if 2 < b.toNat then none else some (if b = 0 then .rising else if b = 1 then .falling else .either) := by
  obtain rfl | rfl | rfl | ⟨k, h⟩ := byte_cases b
  · rfl
  · rfl
  · rfl
  · rw [if_pos (by omega), directionArg, h]
    rfl

/-! ### EXTLINE_SET, DETECTOR_SET and TRIGGER -/

theorem modifyLine_holding (tag : Byte) (payload : List Byte) (p : Part) (l : Fin 4) (f : ExtLine → ExtLine) :
    modifyLine l f (p.holding tag payload) = (modifyLine l f p).holding tag payload := rfl

theorem modifyDetector_holding (tag : Byte) (payload : List Byte) (p : Part) (c : Fin 8) (f : Detector → Detector) :
    modifyDetector c f (p.holding tag payload) = (modifyDetector c f p).holding tag payload := rfl

/-- EXTLINE_SET by its three arguments (R44). -/
theorem runExtlineSet_reply {p : Part} (hin : p.lnk.intake = []) (tag : Byte) (payload : List Byte) (line enabled edge : Byte) :
    applyReply (runExtlineSet line enabled edge (p.holding tag payload)) =
      if h : line.toNat < 4 then
        if enabled.toNat ≤ 1 ∧ edge.toNat ≤ 2 then
          Part.answered tag (payloadCode payload) .ok [] (modifyLine ⟨line.toNat, h⟩ (fun x => { x with
            enabled := decide (enabled = 1)
            edge := if edge = 0 then .rising else if edge = 1 then .falling else .both
            reference := x.level
            latch := false }) p)
        else Part.answered tag (payloadCode payload) .badArg [] p
      else Part.answered tag (payloadCode payload) .badArg [] p := by
  have hrefused := refuse_holding hin tag payload .badArg
  unfold runExtlineSet lineArg
  rw [boolArg_eq, edgeArg_eq]
  by_cases hline : line.toNat < 4
  · rw [dif_pos hline, dif_pos hline]
    by_cases henabled : 1 < enabled.toNat
    · have houtside : ¬ (enabled.toNat ≤ 1 ∧ edge.toNat ≤ 2) := by omega
      rw [if_pos henabled, if_neg houtside]
      exact hrefused
    by_cases hedge : 2 < edge.toNat
    · have houtside : ¬ (enabled.toNat ≤ 1 ∧ edge.toNat ≤ 2) := by omega
      rw [if_neg henabled, if_pos hedge, if_neg houtside]
      exact hrefused
    · have hvalues : enabled.toNat ≤ 1 ∧ edge.toNat ≤ 2 := by omega
      rw [if_neg henabled, if_neg hedge, if_pos hvalues]
      dsimp only
      rw [modifyLine_holding]
      exact taken_holding (q := modifyLine _ _ p) hin tag payload
  · rw [dif_neg hline, dif_neg hline]
    exact hrefused

/-- DETECTOR_SET by its five arguments (R49). -/
theorem runDetectorSet_reply {p : Part} (hin : p.lnk.intake = []) (tag : Byte) (payload : List Byte) (channel enabled : Byte)
    (threshold hysteresis : BitVec 16) (direction : Byte) :
    applyReply (runDetectorSet channel enabled threshold hysteresis direction (p.holding tag payload)) =
      if h : channel.toNat < 8 then
        if enabled.toNat ≤ 1 ∧ hysteresis.toNat ≤ 4095 ∧ direction.toNat ≤ 2 then
          Part.answered tag (payloadCode payload) .ok [] (modifyDetector ⟨channel.toNat, h⟩ (fun _ => {
            enabled := decide (enabled = 1)
            threshold := threshold
            hysteresis := hysteresis.toNat
            direction := if direction = 0 then .rising else if direction = 1 then .falling else .either
            state := .unknown }) p)
        else Part.answered tag (payloadCode payload) .badArg [] p
      else Part.answered tag (payloadCode payload) .badArg [] p := by
  have hrefused := refuse_holding hin tag payload .badArg
  unfold runDetectorSet channelArg
  rw [boolArg_eq, directionArg_eq]
  by_cases hchannel : channel.toNat < 8
  · rw [dif_pos hchannel, dif_pos hchannel]
    by_cases henabled : 1 < enabled.toNat
    · have houtside : ¬ (enabled.toNat ≤ 1 ∧ hysteresis.toNat ≤ 4095 ∧ direction.toNat ≤ 2) := by omega
      rw [if_pos henabled, if_neg houtside]
      exact hrefused
    by_cases hdirection : 2 < direction.toNat
    · have houtside : ¬ (enabled.toNat ≤ 1 ∧ hysteresis.toNat ≤ 4095 ∧ direction.toNat ≤ 2) := by omega
      rw [if_neg henabled, if_pos hdirection, if_neg houtside]
      exact hrefused
    rw [if_neg henabled, if_neg hdirection]
    dsimp only
    by_cases hhysteresis : 4095 < hysteresis.toNat
    · have houtside : ¬ (enabled.toNat ≤ 1 ∧ hysteresis.toNat ≤ 4095 ∧ direction.toNat ≤ 2) := by omega
      rw [if_pos hhysteresis, if_neg houtside]
      exact hrefused
    · have hvalues : enabled.toNat ≤ 1 ∧ hysteresis.toNat ≤ 4095 ∧ direction.toNat ≤ 2 := by omega
      rw [if_neg hhysteresis, if_pos hvalues, modifyDetector_holding]
      exact taken_holding (q := modifyDetector _ _ p) hin tag payload
  · rw [dif_neg hchannel, dif_neg hchannel]
    exact hrefused

/-- TRIGGER by its mask and the state of the Sampler (R50, R51). -/
theorem runTrigger_reply {p : Part} (hin : p.lnk.intake = []) (tag : Byte) (payload : List Byte) (mask : Byte) :
    applyReply (runTrigger mask (p.holding tag payload)) =
      if mask = 0 then Part.answered tag (payloadCode payload) .badArg [] p
      else if p.smp.running = false then Part.answered tag (payloadCode payload) .badState [0, 0, 0, 0, 0, 0, 0, 0, 0] p
      else Part.holding tag payload { p with trg := { p.trg with run := some { mask := mask, firedAt := none } } } := by
  have hsmp : (p.holding tag payload).smp = p.smp := rfl
  unfold runTrigger
  by_cases hmask : mask = 0
  · rw [if_pos hmask, if_pos hmask]
    exact refuse_holding hin tag payload .badArg
  rw [if_neg hmask, if_neg hmask, hsmp]
  cases p.smp.running with
  | false => exact answerHead_holding hin .badState _
  | true => rfl

/-- Settles O6: each command by its arguments, and TRIGGER by the state of the Sampler. -/
theorem triggerUnitCommandsWriteTheirSettings : Obligations.TriggerUnitCommandsWriteTheirSettings := by
  intro s p tag hp haccepts
  have hin : p.lnk.intake = [] := haccepts.2.1
  refine ⟨fun line enabled edge => onEvent_command hp haccepts (.extlineSet line enabled edge) ?_,
    fun channel enabled threshold hysteresis direction =>
      onEvent_command hp haccepts (.detectorSet channel enabled threshold hysteresis direction) ?_,
    fun mask => onEvent_command hp haccepts (.trigger mask) ?_⟩
  · exact runExtlineSet_reply hin tag _ line enabled edge
  · exact runDetectorSet_reply hin tag _ channel enabled threshold hysteresis direction
  · exact runTrigger_reply hin tag _ mask

end Sys2Proof.Machine
end

section
/-!
SUPPORT. The judgement of an offer by all plans (R54, R55): what every plan's verdict finds and leaves, the jobs and the masks it gives,
and the statements about OFFER with and without a TRIGGER that waits for its tick.
-/

namespace Sys2Proof.Machine

/-! ### One verdict: jobs, the plan's own fields, and the frame (R37) -/

/-- The job of an offer that a plan has accepted (R59). -/
def offerJob (o : Offer) (i : Fin 8) : Job :=
  { plan := i, sources := o.sources, tick := o.tick }

/-- A verdict is that of a plan the offer is handed to. -/
theorem handedTo_of_verdict {o : Offer} {i : Fin 8} {p : Part} {j : Judgement} (h : offerVerdict o i p = some j) :
    HandedTo o p.plans[i] i := by
  by_contra hnot
  rw [offerVerdict_eq, handedTo_eq_none.2 hnot, Option.map_none] at h
  cases h

/-- The queue has a place for the job of an offer that is accepted, and none where the plan is dropped for a full queue (R37). -/
theorem jobs_of_verdict {o : Offer} {i : Fin 8} {p : Part} :
    (offerVerdict o i p = some .accepted → p.jobs.length < 8) ∧
      (offerVerdict o i p = some (.dropped .queueFull) → 8 ≤ p.jobs.length) := by
  by_cases hhanded : HandedTo o p.plans[i] i
  · obtain ⟨-, -, d, hd, -⟩ := id hhanded
    rw [offerVerdict_handed hd hhanded]
    by_cases hfull : 8 ≤ p.jobs.length
    · rw [if_pos hfull]
      refine ⟨fun h => ?_, fun _ => hfull⟩
      split_ifs at h <;> cases h
    · rw [if_neg hfull]
      refine ⟨fun _ => by omega, fun h => ?_⟩
      split_ifs at h <;> cases h
  · exact ⟨fun h => absurd (handedTo_of_verdict h) hhanded, fun h => absurd (handedTo_of_verdict h) hhanded⟩

/-- A verdict appends the plan's job where it is an acceptance, and changes no other job (R37). -/
theorem afterVerdict_jobs (o : Offer) (i : Fin 8) (p : Part) :
    (afterVerdict o i p).jobs = p.jobs ++ if offerVerdict o i p = some .accepted then [offerJob o i] else [] := by
  unfold afterVerdict
  extract_lets pl
  split <;> rename_i h <;> rw [h]
  · exact (List.append_nil _).symm
  · exact (List.append_nil _).symm
  · rw [postReport_jobs]
    exact (List.append_nil _).symm
  · rw [postReport_jobs]
    exact (List.append_nil _).symm
  · rw [if_pos rfl]
    rfl

/-- A verdict changes the jobs, the plans and the reports alone (R37). -/
theorem afterVerdict_frame (o : Offer) (i : Fin 8) (p : Part) :
    afterVerdict o i p = { p with
      jobs := (afterVerdict o i p).jobs, plans := (afterVerdict o i p).plans
      lnk := { p.lnk with reports := (afterVerdict o i p).lnk.reports, lost := (afterVerdict o i p).lnk.lost } } := by
  have hpost : ∀ (r : Report) (q : Part), postReport r q = { q with
      lnk := { q.lnk with reports := (postReport r q).lnk.reports, lost := (postReport r q).lnk.lost } } := by
    intro r q
    unfold postReport
    split <;> rfl
  unfold afterVerdict
  extract_lets pl
  split
  · rfl
  · rfl
  · rw [hpost]
  · rw [hpost]
  · rfl

/-- An acceptance writes the plan's last accepted tick and counts no drop (R37 step 4). -/
theorem afterVerdict_accepted {o : Offer} {i : Fin 8} {p : Part} (h : offerVerdict o i p = some .accepted) :
    (afterVerdict o i p).plans[i].lastAccepted = some o.tick ∧
      (afterVerdict o i p).plans[i].counters.droppedFull = p.plans[i].counters.droppedFull := by
  unfold afterVerdict
  rw [h]
  simp

/-- Any other verdict changes the plan's counters alone, the count of acceptances not among them, and the count of drops for a full queue only
where it is that drop (R37, R35). -/
theorem afterVerdict_refused {o : Offer} {i : Fin 8} {p : Part} (h : offerVerdict o i p ≠ some .accepted) :
    (afterVerdict o i p).plans[i] = { p.plans[i] with counters := (afterVerdict o i p).plans[i].counters } ∧
      (afterVerdict o i p).plans[i].counters.accepted = p.plans[i].counters.accepted ∧
      ((afterVerdict o i p).plans[i].counters.droppedFull ≠ p.plans[i].counters.droppedFull →
        offerVerdict o i p = some (.dropped .queueFull)) := by
  unfold afterVerdict
  dsimp only
  split
  · exact ⟨rfl, rfl, fun hne => absurd rfl hne⟩
  · simp
  · simp
  · rename_i hfull
    simp [hfull]
  · rename_i haccepted
    exact absurd haccepted h

/-! ### The part that each plan's verdict finds (R54, R55) -/

/-- The plans below `n + 1` are those below `n` and plan `n`. -/
theorem take_finRange_succ {n : Nat} (hn : n < 8) : (List.finRange 8).take (n + 1) = (List.finRange 8).take n ++ [⟨n, hn⟩] := by
  rw [List.take_add_one, List.getElem?_eq_getElem (by simpa using hn)]
  simp

/-- The next plan judges on what the plans below it have left. -/
theorem judgedBelow_succ (o : Offer) (p : Part) {n : Nat} (hn : n < 8) :
    judgedBelow o p (n + 1) = afterVerdict o ⟨n, hn⟩ (judgedBelow o p n) := by
  unfold judgedBelow
  rw [take_finRange_succ hn, List.foldl_append]
  rfl

/-- A plan stands as it was until its turn, and from then on as its own verdict has left it. -/
theorem judgedBelow_plan (o : Offer) (p : Part) (i : Fin 8) : ∀ n : Nat, n ≤ 8 →
    (judgedBelow o p n).plans[i] = if i.val < n then (afterVerdict o i (judgedBelow o p i.val)).plans[i] else p.plans[i]
  | 0, _ => rfl
  | n + 1, hn => by
    have ih := judgedBelow_plan o p i n (by omega)
    rw [judgedBelow_succ o p (by omega)]
    by_cases hi : (⟨n, by omega⟩ : Fin 8) = i
    · subst hi
      rw [if_pos (Nat.lt_succ_self n)]
    · have hne : n ≠ i.val := fun e => hi (Fin.ext e)
      rw [afterVerdict_other hi, ih]
      exact if_congr (by omega) rfl rfl

/-- What a plan's turn finds of it. -/
theorem judgedBelow_plan_before (o : Offer) (p : Part) (i : Fin 8) : (judgedBelow o p i.val).plans[i] = p.plans[i] := by
  rw [judgedBelow_plan o p i i.val (by omega), if_neg (Nat.lt_irrefl _)]

/-- What all the judgements leave of a plan. -/
theorem judgedBelow_plan_after (o : Offer) (p : Part) (i : Fin 8) :
    (judgedBelow o p 8).plans[i] = (afterVerdict o i (judgedBelow o p i.val)).plans[i] := by
  rw [judgedBelow_plan o p i 8 (Nat.le_refl 8), if_pos i.isLt]

/-- A plan the offer is not handed to comes through the judgements unchanged. -/
theorem judgedBelow_plan_unhanded {o : Offer} {p : Part} {i : Fin 8} (h : ¬ HandedTo o p.plans[i] i) :
    (judgedBelow o p 8).plans[i] = p.plans[i] := by
  have hbefore := judgedBelow_plan_before o p i
  rw [judgedBelow_plan_after, afterVerdict_of_not_handed (by rwa [hbefore]), hbefore]

/-- The judgements change the jobs, the plans and the reports alone. -/
theorem judgedBelow_frame (o : Offer) (p : Part) (n : Nat) :
    judgedBelow o p n = { p with
      jobs := (judgedBelow o p n).jobs, plans := (judgedBelow o p n).plans
      lnk := { p.lnk with reports := (judgedBelow o p n).lnk.reports, lost := (judgedBelow o p n).lnk.lost } } := by
  unfold judgedBelow
  refine List.foldlRecOn (motive := fun q : Part => q = { p with
    jobs := q.jobs, plans := q.plans, lnk := { p.lnk with reports := q.lnk.reports, lost := q.lnk.lost } }) _ _ rfl
    (fun q hq i _ => ?_)
  rw [afterVerdict_frame]
  rw [hq]

/-! ### The plans that accept, and their jobs (R59, R61) -/

/-- A plan accepts an offer at its turn. -/
abbrev AcceptsOffer (o : Offer) (p : Part) (i : Fin 8) : Prop :=
  offerVerdict o i (judgedBelow o p i.val) = some .accepted

/-- The plans below `n` that accept an offer, in ascending index. -/
def acceptingBelow (o : Offer) (p : Part) (n : Nat) : List (Fin 8) :=
  ((List.finRange 8).take n).filter (fun i => decide (AcceptsOffer o p i))

theorem mem_acceptingBelow {o : Offer} {p : Part} {i : Fin 8} : i ∈ acceptingBelow o p 8 ↔ AcceptsOffer o p i := by
  have hall : (List.finRange 8).take 8 = List.finRange 8 := rfl
  simp [acceptingBelow, hall]

theorem acceptingBelow_pairwise (o : Offer) (p : Part) (n : Nat) : (acceptingBelow o p n).Pairwise (fun i j => i < j) :=
  ((List.pairwise_lt_finRange 8).sublist (List.take_sublist n _)).filter _

/-- The jobs of an offer join the queue at its tail in ascending plan index. -/
theorem judgedBelow_jobs (o : Offer) (p : Part) : ∀ n : Nat, n ≤ 8 →
    (judgedBelow o p n).jobs = p.jobs ++ (acceptingBelow o p n).map (offerJob o)
  | 0, _ => (List.append_nil _).symm
  | n + 1, hn => by
    rw [judgedBelow_succ o p (by omega), afterVerdict_jobs, judgedBelow_jobs o p n (by omega), List.append_assoc,
      acceptingBelow, acceptingBelow, take_finRange_succ (Nat.lt_of_succ_le hn), List.filter_append, List.map_append]
    refine congrArg (fun l => p.jobs ++ ((acceptingBelow o p n).map (offerJob o) ++ l)) ?_
    by_cases h : AcceptsOffer o p ⟨n, by omega⟩
    · rw [if_pos h, List.filter_singleton, decide_eq_true h]
      rfl
    · rw [if_neg h, List.filter_singleton, decide_eq_false h]
      rfl

/-- The queue never shrinks in the judgements. -/
theorem judgedBelow_jobs_mono (o : Offer) (p : Part) {m n : Nat} (hmn : m ≤ n) (hn : n ≤ 8) :
    (judgedBelow o p m).jobs.length ≤ (judgedBelow o p n).jobs.length := by
  have hsub : (acceptingBelow o p m).Sublist (acceptingBelow o p n) := (List.take_sublist_take_left hmn).filter _
  rw [judgedBelow_jobs o p m (by omega), judgedBelow_jobs o p n hn]
  simpa using hsub.length_le

/-- The judgements never fill the queue past its eight places (R59). -/
theorem judgedBelow_jobs_le {o : Offer} {p : Part} (h : p.jobs.length ≤ 8) : ∀ n : Nat, n ≤ 8 → (judgedBelow o p n).jobs.length ≤ 8
  | 0, _ => h
  | n + 1, hn => by
    have ih := judgedBelow_jobs_le (o := o) h n (by omega)
    rw [judgedBelow_succ o p (by omega), afterVerdict_jobs, List.length_append]
    by_cases haccepts : AcceptsOffer o p ⟨n, by omega⟩
    · have hroom : (judgedBelow o p n).jobs.length < 8 := jobs_of_verdict.1 haccepts
      rw [if_pos haccepts, List.length_singleton]
      omega
    · rw [if_neg haccepts]
      exact ih

/-- A plan has one more job after the judgements exactly if it accepts (R23, R59). -/
theorem judgedBelow_jobsPending (o : Offer) (p : Part) (i : Fin 8) :
    p.jobsPending i < (judgedBelow o p 8).jobsPending i ↔ AcceptsOffer o p i := by
  unfold Part.jobsPending
  rw [judgedBelow_jobs o p 8 (Nat.le_refl 8), List.filter_append, List.length_append, Nat.lt_add_right_iff_pos, List.length_pos_iff,
    ← mem_acceptingBelow]
  simp [offerJob]

/-- What all the judgements leave of a plan that accepts. -/
theorem judged_plan_accepting {o : Offer} {p q : Part} (hq : q = judgedBelow o p 8) {i : Fin 8} (h : AcceptsOffer o p i) :
    q.plans[i].lastAccepted = some o.tick ∧ q.plans[i].counters.droppedFull = p.plans[i].counters.droppedFull := by
  have hafter := afterVerdict_accepted h
  rw [← judgedBelow_plan_after, ← hq, judgedBelow_plan_before] at hafter
  exact hafter

/-- What all the judgements leave of a plan that does not accept. -/
theorem judged_plan_refusing {o : Offer} {p q : Part} (hq : q = judgedBelow o p 8) {i : Fin 8} (h : ¬ AcceptsOffer o p i) :
    q.plans[i] = { p.plans[i] with counters := q.plans[i].counters } ∧
      q.plans[i].counters.accepted = p.plans[i].counters.accepted ∧
      (q.plans[i].counters.droppedFull ≠ p.plans[i].counters.droppedFull →
        offerVerdict o i (judgedBelow o p i.val) = some (.dropped .queueFull)) := by
  have hafter := afterVerdict_refused h
  rw [← judgedBelow_plan_after, ← hq, judgedBelow_plan_before] at hafter
  exact hafter

/-- A plan whose turn finds a place in the queue counts no drop for a full queue. -/
theorem droppedFull_of_room {o : Offer} {p q : Part} (hq : q = judgedBelow o p 8) {i : Fin 8} (h : (judgedBelow o p i.val).jobs.length < 8) :
    q.plans[i].counters.droppedFull = p.plans[i].counters.droppedFull := by
  by_cases haccepts : AcceptsOffer o p i
  · exact (judged_plan_accepting hq haccepts).2
  · obtain ⟨-, -, hfull⟩ := judged_plan_refusing hq haccepts
    exact not_not.1 (fun hcounted => absurd (jobs_of_verdict.2 (hfull hcounted)) (Nat.not_le.2 h))

/-- No plan is dropped for a full queue where one of a higher index is accepted (R55). -/
theorem droppedFull_before_accepting {o : Offer} {p q : Part} (hq : q = judgedBelow o p 8) {i j : Fin 8} (hij : i < j)
    (hj : AcceptsOffer o p j) : q.plans[i].counters.droppedFull = p.plans[i].counters.droppedFull :=
  droppedFull_of_room hq (Nat.lt_of_le_of_lt (judgedBelow_jobs_mono o p (Nat.le_of_lt hij) (Nat.le_of_lt j.isLt)) (jobs_of_verdict.1 hj))

/-- A plan is dropped for a full queue only when eight jobs stand there. -/
theorem jobs_full_of_droppedFull {o : Offer} {p q : Part} (hq : q = judgedBelow o p 8) (hjobs : p.jobs.length ≤ 8) {i : Fin 8}
    (h : q.plans[i].counters.droppedFull ≠ p.plans[i].counters.droppedFull) : q.jobs.length = 8 := by
  have hplaces := judgedBelow_jobs_le (o := o) hjobs 8 (Nat.le_refl 8)
  have hgrows := judgedBelow_jobs_mono o p (Nat.le_of_lt i.isLt) (Nat.le_refl 8)
  rw [← hq] at hplaces hgrows
  refine Nat.le_antisymm hplaces (Nat.not_lt.1 (fun hroom => h ?_))
  exact droppedFull_of_room hq (Nat.lt_of_le_of_lt hgrows hroom)

/-! ### The masks of the answer (R52) -/

/-- A plan drops an offer at its turn, as BUSY or for a full queue. -/
abbrev DropsOffer (o : Offer) (p : Part) (i : Fin 8) : Prop :=
  offerVerdict o i (judgedBelow o p i.val) = some (.dropped .busy) ∨
    offerVerdict o i (judgedBelow o p i.val) = some (.dropped .queueFull)

theorem planBit_getLsbD (k i : Fin 8) : (planBit k).getLsbD i.val = decide (k = i) := by
  revert k i
  decide

/-- A plan put into a mask under a condition. -/
theorem getLsbD_ite_planBit {P : Prop} [Decidable P] (m : PlanSet) (k i : Fin 8) :
    (if P then m ||| planBit k else m).getLsbD i.val = true ↔ m.getLsbD i.val = true ∨ (P ∧ k = i) := by
  by_cases h : P
  · rw [if_pos h, BitVec.getLsbD_or, planBit_getLsbD, Bool.or_eq_true, decide_eq_true_eq, and_iff_right h]
  · rw [if_neg h, or_iff_left (fun hk => h hk.1)]

/-- The plans that have dropped an offer, after one more plan's place in its judgement (R52). -/
theorem judgePlan_dropped (o : Offer) (acc : Judged) (i : Fin 8) : (judgePlan o acc i).dropped =
    if offerVerdict o i acc.part = some (.dropped .busy) ∨ offerVerdict o i acc.part = some (.dropped .queueFull) then
      acc.dropped ||| planBit i
    else acc.dropped := by
  unfold judgePlan
  rw [offerVerdict_eq]
  cases handedTo acc.part o i with
  | none => rfl
  | some d =>
    simp only [Option.map_some, Option.some.injEq]
    cases judge acc.part o i d with
    | ignored => rfl
    | dropped reason => cases reason <;> rfl
    | accepted => rfl

/-- The judgement of an offer by the plans below `n`. -/
def judgedUpTo (o : Offer) (p : Part) (n : Nat) : Judged :=
  ((List.finRange 8).take n).foldl (judgePlan o) { part := p, accepted := 0, dropped := 0 }

theorem judgedUpTo_eight (o : Offer) (p : Part) : judgedUpTo o p 8 = judgeOffer o p := rfl

/-- The judgement of an offer leaves what the plans' verdicts leave, and its two masks hold the plans of the two kinds of verdict. -/
theorem judgedUpTo_spec (o : Offer) (p : Part) : ∀ n : Nat, n ≤ 8 →
    (judgedUpTo o p n).part = judgedBelow o p n ∧ ∀ i : Fin 8,
      ((judgedUpTo o p n).accepted.getLsbD i.val = true ↔ i.val < n ∧ AcceptsOffer o p i) ∧
      ((judgedUpTo o p n).dropped.getLsbD i.val = true ↔ i.val < n ∧ DropsOffer o p i)
  | 0, _ => ⟨rfl, fun i => by simp [judgedUpTo]⟩
  | n + 1, hn => by
    obtain ⟨hpart, hmasks⟩ := judgedUpTo_spec o p n (by omega)
    have hsucc : judgedUpTo o p (n + 1) = judgePlan o (judgedUpTo o p n) ⟨n, hn⟩ := by
      unfold judgedUpTo
      rw [take_finRange_succ (Nat.lt_of_succ_le hn), List.foldl_append]
      rfl
    have hturn : ∀ (V : Fin 8 → Prop) (i : Fin 8), (i.val < n ∧ V i ∨ V ⟨n, hn⟩ ∧ ⟨n, hn⟩ = i) ↔ i.val < n + 1 ∧ V i := by
      intro V i
      constructor
      · rintro (⟨hi, hv⟩ | ⟨hv, rfl⟩)
        · exact ⟨by omega, hv⟩
        · exact ⟨Nat.lt_succ_self n, hv⟩
      · rintro ⟨hi, hv⟩
        obtain hlt | heq : i.val < n ∨ n = i.val := by omega
        · exact .inl ⟨hlt, hv⟩
        · obtain rfl : (⟨n, hn⟩ : Fin 8) = i := Fin.ext heq
          exact .inr ⟨hv, rfl⟩
    rw [hsucc]
    refine ⟨by rw [judgePlan_part, hpart, judgedBelow_succ o p hn], fun i => ⟨?_, ?_⟩⟩
    · rw [judgePlan_accepted, getLsbD_ite_planBit, hpart, (hmasks i).1]
      exact hturn (AcceptsOffer o p) i
    · rw [judgePlan_dropped, getLsbD_ite_planBit, hpart, (hmasks i).2]
      exact hturn (DropsOffer o p) i

/-- What the judgement of an offer by all plans leaves. -/
theorem judgeOffer_part (o : Offer) (p : Part) : (judgeOffer o p).part = judgedBelow o p 8 :=
  (judgedUpTo_spec o p 8 (Nat.le_refl 8)).1

/-- The plans that the answer names as having accepted and as having dropped the offer. -/
theorem judgeOffer_masks (o : Offer) (p : Part) (i : Fin 8) :
    ((judgeOffer o p).accepted.getLsbD i.val = true ↔ AcceptsOffer o p i) ∧
      ((judgeOffer o p).dropped.getLsbD i.val = true ↔ DropsOffer o p i) := by
  have h := (judgedUpTo_spec o p 8 (Nat.le_refl 8)).2 i
  rwa [judgedUpTo_eight, and_iff_right i.isLt, and_iff_right i.isLt] at h

/-- No plan accepts exactly if the mask of those that do is empty. -/
theorem judgeOffer_accepted_eq_zero {o : Offer} {p : Part} : (judgeOffer o p).accepted = 0 ↔ ∀ i : Fin 8, ¬ AcceptsOffer o p i := by
  constructor
  · intro h i hi
    have hbit := (judgeOffer_masks o p i).1.2 hi
    rw [h] at hbit
    simp at hbit
  · intro h
    refine BitVec.eq_of_getLsbD_eq (fun n hn => ?_)
    have hbit : (judgeOffer o p).accepted.getLsbD n ≠ true := fun hb => h ⟨n, hn⟩ ((judgeOffer_masks o p ⟨n, hn⟩).1.1 hb)
    simpa using hbit

/-! ### OFFER -/

/-- The step OFFER on the part that the due frame start has left (R54, R165). -/
theorem exec_offer {s : State} {p : Part} (hp : arbitrated s.part = p) : exec .offer s = .next (s.withPart (takeOffer p)) :=
  (onEvent_eq takeOffer s).trans (by rw [hp])

/-- The oldest offer is taken from those that wait (R54). -/
theorem takeOffer_cons {p : Part} {o : Offer} {rest : List Offer} (h : p.trg.offers = o :: rest) :
    takeOffer p = handleOffer o { p with trg := { p.trg with offers := rest } } := by
  simp only [takeOffer, h]

/-- What the judgements leave of the part that the offer has been taken from. -/
theorem judgedBelow_taken_frame {o : Offer} {rest : List Offer} {p q : Part}
    (h : q = judgedBelow o { p with trg := { p.trg with offers := rest } } 8) :
    q = { p with
      trg := { p.trg with offers := rest }, jobs := q.jobs, plans := q.plans
      lnk := { p.lnk with reports := q.lnk.reports, lost := q.lnk.lost } } := by
  have hframe := judgedBelow_frame o { p with trg := { p.trg with offers := rest } } 8
  rwa [← h] at hframe

/-- Settles O9: no offer waits, or the judgements by the eight plans, the re-examination where one accepts, and what they leave. -/
theorem offerClaimsPlacesInPlanOrder : Obligations.OfferClaimsPlacesInPlanOrder := by
  intro s p hp
  rw [exec_offer hp]
  refine ⟨fun hnone => by simp only [takeOffer, hnone], fun o rest hoffers hrun => ?_⟩
  rw [takeOffer_cons hoffers]
  intro taken q accepts
  have hhandled := handleOffer_unfired (p := taken) hrun
  rw [judgeOffer_part] at hhandled
  have hq : q = judgedBelow o taken 8 := rfl
  have hframe := judgedBelow_taken_frame hq
  have hqueue := judgedBelow_jobs o taken 8 (Nat.le_refl 8)
  rw [← hq] at hhandled hqueue
  clear_value q
  refine ⟨⟨fun hnone => ?_, fun i hi => ?_⟩, fun i => ⟨?_, judgedBelow_plan_before o taken i⟩, fun hjobs => ?_⟩
  · rw [hhandled, if_pos (judgeOffer_accepted_eq_zero.2 hnone)]
  · rw [hhandled, if_neg (fun h => judgeOffer_accepted_eq_zero.1 h i hi)]
  · rw [hq, judgedBelow_plan_after]
  refine ⟨acceptingBelow o taken 8, acceptingBelow_pairwise o taken 8, fun i => mem_acceptingBelow, hqueue, ?_, fun i hi => ?_,
    fun i hi => ?_, fun i hi => ?_, fun i j hij hj => droppedFull_before_accepting hq hij (mem_acceptingBelow.1 hj),
    fun i hi => jobs_full_of_droppedFull hq hjobs hi, hframe⟩
  · rw [hq]
    exact judgedBelow_jobs_le (p := taken) hjobs 8 (Nat.le_refl 8)
  · have haccepts : AcceptsOffer o taken i := mem_acceptingBelow.1 hi
    have hhanded := handedTo_of_verdict haccepts
    rw [judgedBelow_plan_before] at hhanded
    exact ⟨hhanded, (judged_plan_accepting hq haccepts).1⟩
  · obtain ⟨hplan, hcount, -⟩ := judged_plan_refusing hq (mt mem_acceptingBelow.2 hi)
    exact ⟨hplan, hcount⟩
  · rw [hq]
    exact judgedBelow_plan_unhanded (p := taken) hi

/-! ### The TRIGGER that the offer answers (R52, R161) -/

/-- The command at the head of the intake queue answered, and the TRIGGER no longer in execution: the commands behind it execute (R161). -/
theorem endTrigger_cons {p : Part} {c : IntakeCommand} {behind : List IntakeCommand} (h : p.lnk.intake = c :: behind) (status : Status)
    (results : List Byte) : endTrigger status results p = drain { p with
      trg := { p.trg with run := none }
      lnk := { p.lnk with
        intake := behind
        responses := p.lnk.responses ++ [reservedResponse c.tag (payloadCode c.payload) status results] } } := by
  unfold endTrigger answerHead
  simp only [h]
  rfl

/-- CAP's event for the offer of the tick at which the TRIGGER in execution fired: the judgements, the re-examination where a plan accepts, and
the answer (R52, R54). -/
theorem handleOffer_fired {o : Offer} {p : Part} {r : TriggerRun} (hrun : p.trg.run = some r) (hfired : r.firedAt = some o.tick) :
    handleOffer o p = endTrigger .ok (triggerResults (some o.tick) (judgeOffer o p).accepted (judgeOffer o p).dropped)
      (if (judgeOffer o p).accepted = 0 then judgedBelow o p 8 else reexamine (judgedBelow o p 8)) := by
  have hexamined : (if (judgeOffer o p).accepted = 0 then judgedBelow o p 8 else reexamine (judgedBelow o p 8)).trg = p.trg := by
    split
    · rw [judgedBelow_frame]
    · rw [reexamine_frame, judgedBelow_frame]
  unfold handleOffer
  dsimp only
  rw [judgeOffer_part]
  refine if_pos ?_
  unfold firedAt
  rw [hexamined, hrun]
  exact decide_eq_true hfired

/-- Settles O10: the judgements by the eight plans, then the answer with the masks of the two kinds of verdict. -/
theorem offerAnswersTheTrigger : Obligations.OfferAnswersTheTrigger := by
  intro s p o rest r c behind hp hoffers hrun hfired hintake taken q
  have hhandled := handleOffer_fired (p := taken) hrun hfired
  have hq : q = judgedBelow o taken 8 := rfl
  have hframe := judgedBelow_taken_frame hq
  have hpending := judgedBelow_jobsPending o taken
  rw [← hq] at hhandled hpending
  clear_value q
  refine ⟨(judgeOffer o taken).accepted, (judgeOffer o taken).dropped, ?_, fun i => ?_, hframe⟩
  · intro u
    have hlink : u.lnk.intake = c :: behind := by
      unfold u
      split
      · rw [hframe]
        exact hintake
      · rw [reexamine_frame, hframe]
        exact hintake
    rw [exec_offer hp, takeOffer_cons hoffers, hhandled, endTrigger_cons hlink]
    rfl
  · obtain ⟨haccepted, hdropped⟩ := judgeOffer_masks o taken i
    refine ⟨haccepted, hdropped, haccepted.trans (hpending i).symm, ?_, judgedBelow_plan_before o taken i, fun hunhanded => ?_⟩
    · rw [hq, judgedBelow_plan_after]
    · rw [hq]
      exact judgedBelow_plan_unhanded (p := taken) hunhanded

end Sys2Proof.Machine
end

section
/-!
SUPPORT. A tick event at the Trigger Unit (R43, R47, R51, R53): what of the part the other blocks' share of the event leaves to it, which sources
fire, what it makes of lines and detectors, and the statement about the one offer.
-/

namespace Sys2Proof.Machine

/-! ### What RNG changes when it takes a code (R138 to R146) -/

section Spans

variable {P : Part → Prop} (hchannel : ∀ (c : Fin 8) (f : Channel → Channel) (p : Part), P p → P (modifyChannel c f p))
  (hdetector : ∀ (c : Fin 8) (p : Part), P p → P (detectorUnknown c p)) (hreport : ∀ (r : Report) (p : Part), P p → P (postReport r p))

include hchannel hreport in
theorem endPass_induct (ch : Fin 8) (outcome : PassOutcome) {p : Part} (h : P p) : P (endPass ch outcome p) :=
  hreport _ _ (hchannel _ _ _ h)

include hchannel hdetector hreport

theorem applyRange_induct (ch : Fin 8) (range : Nat) (once : Bool) {p : Part} (h : P p) : P (applyRange ch range once p) :=
  hreport _ _ (hdetector _ _ (hchannel _ _ _ h))

theorem trackDecision_induct (ch : Fin 8) (d : SpanDecision) {p : Part} (h : P p) : P (trackDecision ch d p) := by
  unfold trackDecision
  split
  · split
    · exact applyRange_induct hchannel hdetector hreport _ _ _ h
    · exact h
  · exact h

theorem onceDecision_induct (ch : Fin 8) (d : SpanDecision) {p : Part} (h : P p) : P (onceDecision ch d p) := by
  unfold onceDecision
  split
  · have hcounted := hchannel ch (fun c => { c with counted := some (p.channels[ch].counted.getD 0 + 1) }) p h
    dsimp only
    split
    · exact endPass_induct hchannel hreport _ _ hcounted
    · have happlied := fun r => applyRange_induct hchannel hdetector hreport ch r true hcounted
      split
      · exact endPass_induct hchannel hreport _ _ (happlied _)
      · exact happlied _
  · exact h

theorem takeCode_induct (ch : Fin 8) (code : SampleCode) {p : Part} (h : P p) : P (takeCode ch code p) := by
  have htaken := hchannel ch (codeIntoSpan code) p h
  unfold takeCode endSpan
  dsimp only
  split
  · have hnew := hchannel ch newSpan _ htaken
    split
    · exact hnew
    · exact trackDecision_induct hchannel hdetector hreport _ _ hnew
    · exact onceDecision_induct hchannel hdetector hreport _ _ hnew
  · exact htaken

/-- A property of the part that every change of a channel, every detector set to UNKNOWN and every report keep is kept while RNG takes the codes on
their way to it. -/
theorem settleSpans_induct {p : Part} (h : P p) : P (settleSpans p) := by
  unfold settleSpans
  refine List.foldlRecOn (motive := P) allChannels _ h (fun q hq ch _ => ?_)
  unfold spanArrival
  split
  · exact takeCode_induct hchannel hdetector hreport _ _ (hchannel _ _ _ hq)
  · exact hq

end Spans

/-- RNG, when it takes the codes on their way to it, leaves the lines, the Trigger Unit's own fields and the Sampler alone. -/
theorem settleSpans_keeps (p : Part) :
    (settleSpans p).lines = p.lines ∧ (settleSpans p).trg = p.trg ∧ (settleSpans p).smp = p.smp :=
  settleSpans_induct (P := fun q => q.lines = p.lines ∧ q.trg = p.trg ∧ q.smp = p.smp) (fun _ _ _ h => h) (fun _ _ h => h)
    (fun r q h => by rwa [postReport_lines, postReport_trg, postReport_smp]) ⟨rfl, rfl, rfl⟩

/-! ### The trigger side of the part -/

/-- The trigger side of the part: the lines, the detectors, the Trigger Unit's own fields, and the enabled channel set that it reads. -/
structure TriggerSide where
  lines : Vector ExtLine 4
  detectors : Vector Detector 8
  trg : TriggerUnit
  enabled : ChannelSet

/-- What the part holds on its trigger side. -/
def Part.triggerSide (p : Part) : TriggerSide :=
  { lines := p.lines, detectors := p.detectors, trg := p.trg, enabled := p.smp.enabled }

/-- A fold of operations that leave the trigger side alone leaves it alone. -/
theorem triggerSide_foldl {α : Type} {f : Part → α → Part} (hf : ∀ p a, (f p a).triggerSide = p.triggerSide) (l : List α) (p : Part) :
    (l.foldl f p).triggerSide = p.triggerSide :=
  List.foldlRecOn (motive := fun q => q.triggerSide = p.triggerSide) l f rfl (fun q hq a _ => (hf q a).trans hq)

theorem triggerSide_storeFrame (slot : Fin 4) (w : Window) (tick : Nat) (codes : List SampleCode) (p : Part) :
    (storeFrame slot w tick codes p).triggerSide = p.triggerSide := by
  unfold storeFrame
  split <;> rfl

theorem triggerSide_copyBeforeLoss (tick : Nat) (slot : Fin 4) (p : Part) : (copyBeforeLoss tick slot p).triggerSide = p.triggerSide := by
  have hcopy : (copyFrame slot p).triggerSide = p.triggerSide := by
    unfold copyFrame
    split
    · split
      · split
        · exact triggerSide_storeFrame _ _ _ _ p
        · rfl
      · rfl
    · rfl
  unfold copyBeforeLoss
  split
  · split
    · exact hcopy
    · rfl
  · rfl

theorem triggerSide_liveTick (tick : Nat) (codes : Vector SampleCode 8) (slot : Fin 4) (p : Part) :
    (liveTick tick codes slot p).triggerSide = p.triggerSide := by
  unfold liveTick
  split
  · split
    · dsimp only
      split
      · exact triggerSide_storeFrame _ _ _ _ p
      · rfl
    · rfl
  · rfl

theorem triggerSide_writeHistory (tick : Nat) (codes : Vector SampleCode 8) (p : Part) :
    (writeHistory tick codes p).triggerSide = p.triggerSide := by
  unfold writeHistory
  refine triggerSide_foldl (fun q ch => ?_) _ p
  rfl

theorem triggerSide_observeTick (codes : Vector SampleCode 8) (p : Part) : (observeTick codes p).triggerSide = p.triggerSide := by
  unfold observeTick
  refine triggerSide_foldl (fun q ch => ?_) _ p
  rfl

/-- What a tick event makes of the trigger side is what TRG's share of it makes, on a part that has the trigger side as RNG has left it
(R125, R140). -/
theorem tickEvent_triggerSide (inputs : Vector Int 8) {p : Part} (h : takesTick p.smp = true) :
    ∃ q : Part, q.triggerSide = (settleSpans p).triggerSide ∧ (tickEvent inputs p).triggerSide =
      (triggerTick p.smp.tickCounter (sampledCodes inputs (settleSpans p)) q).triggerSide := by
  unfold tickEvent
  rw [if_pos h]
  extract_lets tick settled codes copied written sampled triggered observed
  refine ⟨sampled, ?_, ?_⟩
  · calc sampled.triggerSide = written.triggerSide := rfl
      _ = copied.triggerSide := triggerSide_writeHistory tick codes copied
      _ = settled.triggerSide := triggerSide_foldl (fun q w => triggerSide_copyBeforeLoss tick w q) allSlots settled
  · exact (triggerSide_foldl (fun q w => triggerSide_liveTick tick codes w q) allSlots observed).trans (triggerSide_observeTick codes triggered)

/-! ### The sources that fire (R43, R47) -/

/-- The sources put into a set one by one under a condition, source by source. -/
theorem getLsbD_foldl_or {α : Type} (f : α → Bool) (bit : α → SourceSet) (n : Nat) : ∀ (l : List α) (s : SourceSet),
    (l.foldl (fun s a => if f a then s ||| bit a else s) s).getLsbD n = true ↔
      s.getLsbD n = true ∨ ∃ a ∈ l, f a = true ∧ (bit a).getLsbD n = true
  | [], s => by simp
  | a :: l, s => by
    rw [List.foldl_cons, getLsbD_foldl_or f bit n l, List.exists_mem_cons_iff, ← or_assoc]
    refine or_congr_left ?_
    by_cases hf : f a = true <;> simp [hf]

theorem mem_allLines (l : Fin 4) : l ∈ allLines := by
  revert l
  decide

theorem mem_allChannels (c : Fin 8) : c ∈ allChannels := by
  revert c
  decide

theorem extSource_getLsbD (l : Fin 4) (n : Fin 13) : (extSource l).getLsbD n.val = decide (l.val = n.val) := by
  revert l n
  decide

theorem lvlSource_getLsbD (c : Fin 8) (n : Fin 13) : (lvlSource c).getLsbD n.val = decide (4 + c.val = n.val) := by
  revert c n
  decide

/-- EXTn is among the sources that fire if line n is enabled with its latch set (R43). -/
theorem firingLines_getLsbD (p : Part) (n : Fin 13) : (firingLines p).getLsbD n.val = true ↔
    ∃ l : Fin 4, (p.lines[l].enabled && p.lines[l].latch) = true ∧ l.val = n.val := by
  unfold firingLines
  rw [getLsbD_foldl_or, or_iff_right (by simp)]
  simp only [mem_allLines, true_and, extSource_getLsbD, decide_eq_true_eq]

/-- LVLn is among the sources that fire if detector n judges its channel's code and fires at it (R47). -/
theorem firingDetectors_getLsbD (codes : Vector SampleCode 8) (p : Part) (n : Fin 13) : (firingDetectors codes p).getLsbD n.val = true ↔
    ∃ c : Fin 8, (detectorJudges p c && detectorFires p.detectors[c] codes[c]) = true ∧ 4 + c.val = n.val := by
  unfold firingDetectors
  rw [getLsbD_foldl_or, or_iff_right (by simp)]
  simp only [mem_allChannels, true_and, lvlSource_getLsbD, decide_eq_true_eq]

/-- The sources that fire at a tick (R43, R47, R51). -/
def firingSources (codes : Vector SampleCode 8) (p : Part) : SourceSet :=
  firingLines p ||| firingDetectors codes p ||| (if (softFiring p).isSome then softSource else 0)

/-- The sources that fire, by the three kinds of source. -/
theorem firingSources_getLsbD (codes : Vector SampleCode 8) (p : Part) (n : Fin 13) : (firingSources codes p).getLsbD n.val = true ↔
    ((∃ l : Fin 4, (p.lines[l].enabled && p.lines[l].latch) = true ∧ l.val = n.val) ∨
      ∃ c : Fin 8, (detectorJudges p c && detectorFires p.detectors[c] codes[c]) = true ∧ 4 + c.val = n.val) ∨
    ((softFiring p).isSome = true ∧ n.val = 12) := by
  have hsoft : (if (softFiring p).isSome then softSource else 0).getLsbD n.val = true ↔ (softFiring p).isSome = true ∧ n.val = 12 := by
    by_cases h : (softFiring p).isSome = true
    · rw [if_pos h, softSource_getLsbD, decide_eq_true_eq, and_iff_right h]
    · simp [h]
  rw [firingSources, BitVec.getLsbD_or, BitVec.getLsbD_or, Bool.or_eq_true, Bool.or_eq_true, firingLines_getLsbD, firingDetectors_getLsbD, hsoft]

theorem firingSources_line (codes : Vector SampleCode 8) (p : Part) (l : Fin 4) :
    (firingSources codes p).getLsbD l.val = (p.lines[l].enabled && p.lines[l].latch) := by
  refine Bool.eq_iff_iff.2 ((firingSources_getLsbD codes p ⟨l.val, by omega⟩).trans ⟨?_, fun h => .inl (.inl ⟨l, h, rfl⟩)⟩)
  rintro ((⟨k, hk, hkl⟩ | ⟨c, -, hc⟩) | ⟨-, h⟩)
  · rwa [← Fin.ext hkl]
  · exact absurd hc (by dsimp only; omega)
  · exact absurd h (by dsimp only; omega)

theorem firingSources_detector (codes : Vector SampleCode 8) (p : Part) (c : Fin 8) :
    (firingSources codes p).getLsbD (4 + c.val) = (detectorJudges p c && detectorFires p.detectors[c] codes[c]) := by
  refine Bool.eq_iff_iff.2 ((firingSources_getLsbD codes p ⟨4 + c.val, by omega⟩).trans ⟨?_, fun h => .inl (.inr ⟨c, h, rfl⟩)⟩)
  rintro ((⟨l, -, hl⟩ | ⟨k, hk, hkc⟩) | ⟨-, h⟩)
  · exact absurd hl (by dsimp only; omega)
  · obtain rfl : k = c := Fin.ext (Nat.add_left_cancel hkc)
    exact hk
  · exact absurd h (by dsimp only; omega)

theorem firingSources_soft (codes : Vector SampleCode 8) (p : Part) :
    (firingSources codes p).getLsbD 12 = (softFiring p).isSome := by
  refine Bool.eq_iff_iff.2 ((firingSources_getLsbD codes p 12).trans ⟨?_, fun h => .inr ⟨h, rfl⟩⟩)
  rintro ((⟨l, -, hl⟩ | ⟨c, -, hc⟩) | ⟨h, -⟩)
  · exact absurd hl (by omega)
  · exact absurd hc (by omega)
  · exact h

/-- A detector fires at a code that crosses its bound in its direction (R47). -/
theorem detectorFires_iff (d : Detector) (code : SampleCode) : detectorFires d code = true ↔
    (d.state = .below ∧ d.direction ≠ .falling ∧ d.threshold.toInt + d.hysteresis < code.toInt) ∨
      (d.state = .above ∧ d.direction ≠ .rising ∧ code.toInt < d.threshold.toInt - d.hysteresis) := by
  unfold detectorFires crossing
  cases d.state with
  | unknown =>
    by_cases habove : d.threshold.toInt ≤ code.toInt <;> simp [habove]
  | below =>
    by_cases hcrossed : d.threshold.toInt + d.hysteresis < code.toInt <;> cases d.direction <;> simp [hcrossed, directionMatches]
  | above =>
    by_cases hcrossed : code.toInt < d.threshold.toInt - d.hysteresis <;> cases d.direction <;> simp [hcrossed, directionMatches]

/-! ### The latches and the detectors after the tick (R43, R47) -/

/-- A fold that changes one entry after another, none of them twice: every entry of the list is changed once. -/
theorem foldl_entries {ι β : Type} [DecidableEq ι] {get : Part → ι → β} {f : Part → ι → Part} {g : ι → β → β}
    (hf : ∀ p a k, get (f p a) k = if a = k then g k (get p k) else get p k) : ∀ {l : List ι}, l.Nodup → ∀ (p : Part) (k : ι),
    get (l.foldl f p) k = if k ∈ l then g k (get p k) else get p k
  | [], _, _, _ => rfl
  | a :: l, hl, p, k => by
    obtain ⟨ha, hl⟩ := List.nodup_cons.1 hl
    rw [List.foldl_cons, foldl_entries hf hl, hf]
    by_cases hk : a = k
    · subst hk
      rw [if_neg ha, if_pos rfl, if_pos List.mem_cons_self]
    · rw [if_neg hk]
      simp only [List.mem_cons, Ne.symm hk, false_or]

/-- The enabled lines' latches cleared, line by line (R43). -/
theorem readLatches_get (p : Part) (l : Fin 4) :
    (readLatches p).lines[l] = { p.lines[l] with latch := p.lines[l].latch && !p.lines[l].enabled } := by
  have hentry := foldl_entries (get := fun p l => p.lines[l]) (f := fun p l => modifyLine l (fun x => { x with latch := x.latch && !x.enabled }) p)
    (g := fun _ x => { x with latch := x.latch && !x.enabled })
    (fun p a k => by
      rw [modifyLine_get]
      split
      · rename_i h
        rw [h]
      · rfl) (l := allLines) (by decide) p l
  unfold readLatches
  rwa [if_pos (mem_allLines l)] at hentry

/-- A detector after a tick of an enabled channel set and its channel's code (R47). -/
def judgedDetector (enabled : ChannelSet) (c : Fin 8) (code : SampleCode) (d : Detector) : Detector :=
  if d.enabled = true ∧ enabled.getLsbD c.val = true then { d with state := (crossing d code).1 } else d

/-- A detector's share of the judgement of a tick's codes. -/
def judgeDetector (codes : Vector SampleCode 8) (p : Part) (a : Fin 8) : Part :=
  if detectorJudges p a then modifyDetector a (fun d => { d with state := (crossing d codes[a]).1 }) p else p

theorem judgeDetectors_eq_foldl (codes : Vector SampleCode 8) (p : Part) :
    judgeDetectors codes p = allChannels.foldl (judgeDetector codes) p := rfl

/-- One detector judged: the enabled channel set stays, and so does every other detector. -/
theorem judgeDetector_get (codes : Vector SampleCode 8) (p : Part) (a k : Fin 8) :
    (judgeDetector codes p a).triggerSide.enabled = p.triggerSide.enabled ∧
      (judgeDetector codes p a).triggerSide.detectors[k] =
        if a = k then judgedDetector p.triggerSide.enabled k codes[k] p.triggerSide.detectors[k] else p.triggerSide.detectors[k] := by
  by_cases hjudges : detectorJudges p a = true
  · have hjudged : p.detectors[a].enabled = true ∧ p.smp.enabled.getLsbD a.val = true := by simpa [detectorJudges] using hjudges
    have hstep : judgeDetector codes p a = modifyDetector a (fun d => { d with state := (crossing d codes[a]).1 }) p := if_pos hjudges
    rw [hstep]
    refine ⟨rfl, ?_⟩
    have hget := modifyDetector_get a k (fun d => { d with state := (crossing d codes[a]).1 }) p
    refine hget.trans ?_
    by_cases hk : a = k
    · subst hk
      rw [if_pos rfl, if_pos rfl]
      exact (if_pos hjudged).symm
    · rw [if_neg hk, if_neg hk]
      rfl
  · have hstays : ¬ (p.detectors[a].enabled = true ∧ p.smp.enabled.getLsbD a.val = true) := by simpa [detectorJudges] using hjudges
    have hstep : judgeDetector codes p a = p := if_neg hjudges
    rw [hstep]
    refine ⟨rfl, ?_⟩
    by_cases hk : a = k
    · subst hk
      rw [if_pos rfl]
      exact (if_neg hstays).symm
    · rw [if_neg hk]

/-- The detectors judged, detector by detector (R47). -/
theorem judgeDetectors_get {codes : Vector SampleCode 8} {p q : Part} (hq : q = judgeDetectors codes p) (c : Fin 8) :
    q.triggerSide.detectors[c] = judgedDetector p.triggerSide.enabled c codes[c] p.triggerSide.detectors[c] := by
  have hnodup : allChannels.Nodup := by decide
  have hentry := foldl_entries (get := fun q k => (q.triggerSide.enabled, q.triggerSide.detectors[k])) (f := judgeDetector codes)
    (g := fun k x => (x.1, judgedDetector x.1 k codes[k] x.2))
    (fun q a k => by
      obtain ⟨henabled, hdetector⟩ := judgeDetector_get codes q a k
      dsimp only
      rw [henabled, hdetector]
      split <;> rfl) hnodup p c
  have hfold : allChannels.foldl (judgeDetector codes) p = q := (hq.trans (judgeDetectors_eq_foldl codes p)).symm
  rw [if_pos (mem_allChannels c), hfold] at hentry
  exact congrArg Prod.snd hentry

/-- Latches read change the lines alone. -/
theorem readLatches_keeps (p : Part) :
    (readLatches p).detectors = p.detectors ∧ (readLatches p).trg = p.trg ∧ (readLatches p).smp = p.smp :=
  List.foldlRecOn (motive := fun q : Part => q.detectors = p.detectors ∧ q.trg = p.trg ∧ q.smp = p.smp) allLines _ ⟨rfl, rfl, rfl⟩
    (fun _ h _ _ => h)

/-- Detectors judged change the detectors alone. -/
theorem judgeDetectors_keeps (codes : Vector SampleCode 8) (p : Part) :
    (judgeDetectors codes p).lines = p.lines ∧ (judgeDetectors codes p).trg = p.trg :=
  List.foldlRecOn (motive := fun q : Part => q.lines = p.lines ∧ q.trg = p.trg) allChannels _ ⟨rfl, rfl⟩ (fun q h ch _ => by
    split <;> exact h)

/-! ### TRG's share of a tick event (R43, R47, R51, R53, R57) -/

/-- The SOFT mask of a TRIGGER in execution that has not fired (R51). -/
theorem softFiring_some {p : Part} {r : TriggerRun} (h : p.trg.run = some r) :
    softFiring p = if r.firedAt = none then some r.mask else none := by
  unfold softFiring
  rw [h]
  simp only [Option.isNone_iff_eq_none]

theorem softFiring_none {p : Part} (h : p.trg.run = none) : softFiring p = none := by
  unfold softFiring
  rw [h]

/-- The Trigger Unit after it has formed an offer, field by field: a TRIGGER that fires SOFT with it takes the tick (R51, R53, R57). -/
theorem offerFormed_eq (tick : Nat) (sources : SourceSet) (p : Part) : offerFormed tick sources (softFiring p) p.trg =
    { run := p.trg.run.map (fun r => { r with firedAt := if r.firedAt = none then some tick else r.firedAt })
      offerCount := min (p.trg.offerCount + 1) 4294967295
      lastOffer := some (tick, sources)
      offers := p.trg.offers ++ [{ tick := tick, sources := sources, softMask := softFiring p, unseenBy := 0 }] } := by
  have hrun : (offerFormed tick sources (softFiring p) p.trg).run =
      p.trg.run.map (fun r => { r with firedAt := if r.firedAt = none then some tick else r.firedAt }) := by
    unfold offerFormed
    cases h : p.trg.run with
    | none => rfl
    | some r =>
      rw [softFiring_some h]
      by_cases hfired : r.firedAt = none <;> simp [hfired]
  rw [← hrun]
  rfl

/-- The trigger side after TRG's share of a tick event: that of the detectors judged, with the one offer where a source fires. -/
theorem triggerSide_triggerTick (tick : Nat) (codes : Vector SampleCode 8) (p : Part) :
    (triggerTick tick codes p).triggerSide = { (judgeDetectors codes (readLatches p)).triggerSide with
      trg := if firingSources codes p = 0 then p.trg else offerFormed tick (firingSources codes p) (softFiring p) p.trg } := by
  have htrg : (judgeDetectors codes (readLatches p)).trg = p.trg :=
    (judgeDetectors_keeps codes (readLatches p)).2.trans (readLatches_keeps p).2.1
  unfold triggerTick
  generalize judgeDetectors codes (readLatches p) = q at htrg
  rw [← htrg]
  by_cases hnone : firingSources codes p = 0
  · rw [if_pos hnone]
    exact congrArg Part.triggerSide (if_pos hnone)
  · rw [if_neg hnone]
    exact congrArg Part.triggerSide (if_neg hnone)

/-- TRG's share of a tick event, line by line and detector by detector, with the one offer of all sources that fire. -/
theorem triggerTick_spec {tick : Nat} {codes : Vector SampleCode 8} {p t : Part}
    (ht : t.triggerSide = (triggerTick tick codes p).triggerSide) :
    (∀ l : Fin 4, t.lines[l] = { p.lines[l] with latch := p.lines[l].latch && !p.lines[l].enabled }) ∧
    (∀ c : Fin 8, t.detectors[c] = judgedDetector p.smp.enabled c codes[c] p.detectors[c]) ∧
    t.trg = if firingSources codes p = 0 then p.trg else offerFormed tick (firingSources codes p) (softFiring p) p.trg := by
  obtain ⟨hdetectors, -, hsmp⟩ := readLatches_keeps p
  have hlines := (judgeDetectors_keeps codes (readLatches p)).1
  have hjudged := judgeDetectors_get (codes := codes) (p := readLatches p) rfl
  have hread := readLatches_get p
  rw [triggerSide_triggerTick] at ht
  generalize judgeDetectors codes (readLatches p) = j at ht hlines hjudged
  generalize readLatches p = k at hdetectors hsmp hlines hjudged hread
  have htlines : t.lines = k.lines := (congrArg TriggerSide.lines ht).trans hlines
  have htdetectors : t.detectors = j.triggerSide.detectors := congrArg TriggerSide.detectors ht
  have hkside : k.triggerSide.detectors = p.detectors ∧ k.triggerSide.enabled = p.smp.enabled := ⟨hdetectors, congrArg Sampler.enabled hsmp⟩
  refine ⟨fun l => ?_, fun c => ?_, congrArg TriggerSide.trg ht⟩
  · rw [htlines]
    exact hread l
  · rw [htdetectors, hjudged, hkside.1, hkside.2]

/-- The part on which TRG's share of a tick event is taken, as RNG has left it. -/
theorem keeps_of_triggerSide {p q : Part} (h : q.triggerSide = (settleSpans p).triggerSide) :
    q.lines = p.lines ∧ q.detectors = (settleSpans p).detectors ∧ q.trg = p.trg ∧ q.smp.enabled = p.smp.enabled := by
  obtain ⟨hlines, htrg, hsmp⟩ := settleSpans_keeps p
  generalize settleSpans p = r at h hlines htrg hsmp
  exact ⟨(congrArg TriggerSide.lines h).trans hlines, congrArg TriggerSide.detectors h, (congrArg TriggerSide.trg h).trans htrg,
    (congrArg TriggerSide.enabled h).trans (congrArg Sampler.enabled hsmp)⟩

/-- Settles O7: the tick event's trigger side is TRG's share of it, and the sources that fire are of the three kinds. -/
theorem tickEventFormsOneOffer : Obligations.TickEventFormsOneOffer := by
  intro s p inputs hp hrunning hnewest q codes tick soft
  have htakes : takesTick p.smp = true := by simp [takesTick, hrunning, hnewest]
  have hexec : exec (.tickEvent inputs) s = .next (s.withPart (tickEvent inputs p)) :=
    (onEvent_eq (tickEvent inputs) s).trans (by rw [hp])
  obtain ⟨x, hx, ht⟩ := tickEvent_triggerSide inputs htakes
  obtain ⟨hlines, hdetectors, htrg, henabled⟩ := keeps_of_triggerSide hx
  change (tickEvent inputs p).triggerSide = (triggerTick tick codes x).triggerSide at ht
  change x.detectors = q.detectors at hdetectors
  clear hx
  clear_value codes q
  generalize tickEvent inputs p = t at hexec ht
  have hsoft : softFiring x = soft := by
    unfold soft
    rw [← htrg]
    cases hrun : x.trg.run with
    | none => exact softFiring_none hrun
    | some r => exact softFiring_some hrun
  obtain ⟨htlines, htdetectors, httrg⟩ := triggerTick_spec ht
  rw [offerFormed_eq, hsoft, htrg] at httrg
  refine ⟨t, firingSources codes x, hexec, fun l => ?_, fun c => ?_, ?_, fun l => ?_, fun c => ?_, httrg⟩
  · rw [firingSources_line, hlines]
  · rw [firingSources_detector, Bool.and_eq_true, detectorFires_iff, detectorJudges, Bool.and_eq_true, hdetectors, henabled, and_assoc]
  · rw [firingSources_soft, hsoft]
  · rw [htlines, hlines]
  · rw [htdetectors, hdetectors, henabled]
    refine if_congr Iff.rfl (congrArg (fun st => { q.detectors[c] with state := st }) ?_) rfl
    unfold crossing
    cases q.detectors[c].state <;> exact apply_ite Prod.fst _ _ _

end Sys2Proof.Machine
end

section
/-!
SUPPORT. The queues of CAP and LNK (R59, R160, R163, R164): which operations leave the commands and their answers alone and keep the other queues
within their places, what an answer, an admission and a frame start do to them, and that every step keeps all of them within their places.
-/

namespace Sys2Proof.Machine

/-! ### Operations that neither admit nor answer a command -/

/-- The command side of the part: the commands that wait or execute, which of the executions that last is under way, and the responses. -/
structure CommandSide where
  intake : List IntakeCommand
  triggering : Bool
  finishing : Bool
  resetting : Bool
  responses : List Response

/-- What the part holds on its command side. -/
def Part.commandSide (p : Part) : CommandSide :=
  { intake := p.lnk.intake, triggering := p.trg.run.isSome, finishing := p.lnk.finishing, resetting := p.lnk.resetting
    responses := p.lnk.responses }

/-- What every operation but LNK's own does to the queues: the command side stays, and the report queue, the lost count and the Pending Job Queue
stay within their places. -/
structure QueuesKept (p q : Part) : Prop where
  commands : q.commandSide = p.commandSide
  reports : p.lnk.reports.length ≤ 16 ∧ p.lnk.lost ≤ 255 → q.lnk.reports.length ≤ 16 ∧ q.lnk.lost ≤ 255
  jobs : p.jobs.length ≤ 8 → q.jobs.length ≤ 8

theorem QueuesKept.refl (p : Part) : QueuesKept p p :=
  ⟨rfl, id, id⟩

theorem QueuesKept.trans {p q r : Part} (h : QueuesKept p q) (h' : QueuesKept q r) : QueuesKept p r :=
  ⟨h'.commands.trans h.commands, fun hp => h'.reports (h.reports hp), fun hp => h'.jobs (h.jobs hp)⟩

/-- A command that only reports. -/
theorem QueuesKept.of_fst {p : Part} {x : Part × Reply} (h : x.1 = p) : QueuesKept p x.1 :=
  h ▸ .refl _

theorem kept_foldl {α : Type} {f : Part → α → Part} (hf : ∀ p a, QueuesKept p (f p a)) (l : List α) (p : Part) :
    QueuesKept p (l.foldl f p) :=
  List.foldlRecOn (motive := QueuesKept p) l f (.refl p) (fun q hq a _ => hq.trans (hf q a))

theorem kept_modifyPlan (i : Fin 8) (f : Plan → Plan) (p : Part) : QueuesKept p (modifyPlan i f p) := ⟨rfl, id, id⟩
theorem kept_modifyChannel (c : Fin 8) (f : Channel → Channel) (p : Part) : QueuesKept p (modifyChannel c f p) := ⟨rfl, id, id⟩
theorem kept_modifyDetector (c : Fin 8) (f : Detector → Detector) (p : Part) : QueuesKept p (modifyDetector c f p) := ⟨rfl, id, id⟩
theorem kept_modifyLine (l : Fin 4) (f : ExtLine → ExtLine) (p : Part) : QueuesKept p (modifyLine l f p) := ⟨rfl, id, id⟩
theorem kept_modifyLane (l : Fin 2) (f : Lane → Lane) (p : Part) : QueuesKept p (modifyLane l f p) := ⟨rfl, id, id⟩
theorem kept_modifyRecord (id : Nat) (f : Record → Record) (p : Part) : QueuesKept p (modifyRecord id f p) := ⟨rfl, fun h => h, fun h => h⟩
theorem kept_setSlot (w : Fin 4) (x : Option Window) (p : Part) : QueuesKept p (setSlot w x p) := ⟨rfl, id, id⟩
theorem kept_detectorUnknown (c : Fin 8) (p : Part) : QueuesKept p (detectorUnknown c p) := ⟨rfl, id, id⟩
theorem kept_setParser (x : Parser) (p : Part) : QueuesKept p (setParser x p) := ⟨rfl, id, id⟩
theorem kept_parserToHunt (p : Part) : QueuesKept p (parserToHunt p) := ⟨rfl, id, id⟩
theorem kept_exchangeByte (p : Part) : QueuesKept p (exchangeByte p) := ⟨rfl, id, id⟩

/-- A report enters a queue with a free place, or is counted up to 255 (R164). -/
theorem kept_postReport (r : Report) (p : Part) : QueuesKept p (postReport r p) := by
  rcases postReport_spec r p with ⟨hroom, h⟩ | ⟨-, h⟩ <;> rw [h]
  · exact ⟨rfl, fun _ => ⟨by simpa using hroom, Nat.zero_le _⟩, id⟩
  · exact ⟨rfl, fun h => ⟨h.1, Nat.min_le_right _ _⟩, id⟩

/-! #### Record Memory, plans and windows -/

theorem kept_beginStaging (l : Fin 2) (p : Part) : QueuesKept p (beginStaging l p) := by
  rw [beginStaging_frame]
  exact ⟨rfl, id, id⟩

theorem kept_handOff (l : Fin 2) (id : Nat) (p : Part) : QueuesKept p (handOff l id p) :=
  (kept_modifyLane l _ p).trans (kept_beginStaging l _)

theorem kept_lowerLocks (set : ChannelSet) (p : Part) : QueuesKept p (lowerLocks set p) := by
  rw [lowerLocks_frame]
  exact ⟨rfl, id, id⟩

theorem kept_freeRecord (id : Nat) (p : Part) : QueuesKept p (freeRecord id p) := by
  rcases freeRecord_spec id p with ⟨-, h⟩ | ⟨r, -, h⟩ <;> rw [h] <;> exact ⟨rfl, fun h => h, fun h => h⟩

theorem kept_trimChain (id : Nat) (p : Part) : QueuesKept p (trimChain id p) := by
  rcases trimChain_spec id p with ⟨-, h⟩ | ⟨r, -, h⟩ <;> rw [h] <;> exact ⟨rfl, fun h => h, fun h => h⟩

/-- An open takes its job out of the queue (R67). -/
theorem kept_openWindow (w : Fin 4) (j : Job) (d : PlanDef) (pre blocks : Nat) (p : Part) :
    QueuesKept p (openWindow w j d pre blocks p) := by
  rw [openWindow_frame]
  exact ⟨rfl, id, fun h => (List.length_erase_le).trans h⟩

theorem kept_reexamine (p : Part) : QueuesKept p (reexamine p) :=
  reexamine_induct (P := QueuesKept p) (fun q w j d pre blocks _ hq => hq.trans (kept_openWindow w j d pre blocks q)) (.refl p)

theorem kept_freeAndReexamine (id : Nat) (p : Part) : QueuesKept p (freeAndReexamine id p) :=
  (kept_freeRecord id p).trans (kept_reexamine _)

theorem kept_planDoneIfIdle (i : Fin 8) (p : Part) : QueuesKept p (planDoneIfIdle i p) := by
  unfold planDoneIfIdle
  split
  · exact (kept_modifyPlan i _ p).trans (kept_postReport _ _)
  · exact .refl p

theorem kept_haltPlan (i : Fin 8) (reason : PlanHalt) (removed : Nat) (p : Part) : QueuesKept p (haltPlan i reason removed p) :=
  (kept_modifyPlan i _ p).trans (kept_postReport _ _)

/-- A queue that has lost jobs stays within its places. -/
theorem kept_fewerJobs {p : Part} {jobs : List Job} (h : jobs.length ≤ p.jobs.length) : QueuesKept p { p with jobs := jobs } :=
  ⟨rfl, id, h.trans⟩

theorem kept_expireJob (reason : ExpiryReason) (j : Job) (p : Part) : QueuesKept p (expireJob reason j p) :=
  (kept_fewerJobs List.length_erase_le).trans ((kept_modifyPlan j.plan _ _).trans (kept_postReport _ _))

theorem kept_expireByHistory (p : Part) : QueuesKept p (expireByHistory p) := by
  unfold expireByHistory
  split
  · exact .refl p
  · exact (kept_foldl (fun q j => (kept_expireJob .history j q).trans (kept_planDoneIfIdle _ _)) _ p).trans (kept_reexamine _)

theorem kept_storeFrame (slot : Fin 4) (w : Window) (tick : Nat) (codes : List SampleCode) (p : Part) :
    QueuesKept p (storeFrame slot w tick codes p) := by
  unfold storeFrame
  split <;> exact ⟨rfl, id, id⟩

theorem kept_copyFrame (slot : Fin 4) (p : Part) : QueuesKept p (copyFrame slot p) := by
  unfold copyFrame
  split
  · split
    · split
      · exact kept_storeFrame _ _ _ _ p
      · exact .refl p
    · exact .refl p
  · exact .refl p

theorem kept_endCopy (slot : Fin 4) (p : Part) : QueuesKept p (endCopy slot p) := by
  unfold endCopy
  repeat' split
  all_goals exact ⟨rfl, id, id⟩

theorem kept_copyBeforeLoss (tick : Nat) (slot : Fin 4) (p : Part) : QueuesKept p (copyBeforeLoss tick slot p) := by
  unfold copyBeforeLoss
  split
  · split
    · exact kept_copyFrame slot p
    · exact .refl p
  · exact .refl p

theorem kept_liveTick (tick : Nat) (codes : Vector SampleCode 8) (slot : Fin 4) (p : Part) : QueuesKept p (liveTick tick codes slot p) := by
  unfold liveTick
  split
  · split
    · dsimp only
      split
      · exact kept_storeFrame _ _ _ _ p
      · exact kept_setSlot _ _ p
    · exact .refl p
  · exact .refl p

theorem kept_sealRecord (slot : Fin 4) (w : Window) (p : Part) : QueuesKept p (sealRecord slot w p) := by
  have htrimmed := (kept_modifyRecord w.recordId (sealedRecord w) p).trans (kept_trimChain w.recordId _)
  have hclosed := (htrimmed.trans (kept_lowerLocks w.channels _)).trans
    ((kept_setSlot slot none _).trans (kept_modifyPlan w.plan (fun pl => { pl with openRecord := none }) _))
  unfold sealRecord
  dsimp only
  split
  · exact hclosed.trans ((kept_postReport _ _).trans (kept_handOff _ _ _))
  · exact hclosed

theorem kept_sealWindow (completes : Bool) (slot : Fin 4) (p : Part) : QueuesKept p (sealWindow completes slot p) := by
  unfold sealWindow
  split
  · rename_i w _
    dsimp only
    refine (kept_sealRecord slot w p).trans (.trans ?_ (kept_reexamine _))
    split
    · exact kept_planDoneIfIdle _ _
    · exact .refl _
  · exact .refl p

theorem kept_sealEnded (slot : Fin 4) (p : Part) : QueuesKept p (sealEnded slot p) := by
  unfold sealEnded
  split
  · split
    · exact kept_sealWindow true slot p
    · exact .refl p
  · exact .refl p

/-! #### The lanes -/

theorem kept_endStaging (l b : Fin 2) (p : Part) : QueuesKept p (endStaging l b p) := by
  unfold endStaging
  split
  · exact (kept_modifyLane l _ p).trans (kept_beginStaging l _)
  · exact .refl p
  · exact .refl p

theorem kept_haltLane (l : Fin 2) (reason : LaneHalt) (p : Part) : QueuesKept p (haltLane l reason p) :=
  (kept_modifyLane l _ p).trans (kept_postReport _ _)

theorem kept_completeLane (l : Fin 2) (p : Part) : QueuesKept p (completeLane l p) := by
  unfold completeLane
  split
  · refine (kept_modifyLane l releaseBuffer p).trans (.trans ?_ (kept_beginStaging l _))
    split
    · exact kept_haltLane l .host _
    · exact kept_modifyLane l _ _
  · exact .refl p

theorem kept_retryLane (l : Fin 2) (p : Part) : QueuesKept p (retryLane l p) := by
  unfold retryLane
  extract_lets counted
  refine (kept_modifyLane l _ p : QueuesKept p counted).trans ?_
  split
  · exact kept_haltLane l .retryLimit _
  · exact kept_modifyLane l _ _

theorem kept_ackExpiry (l : Fin 2) (p : Part) : QueuesKept p (ackExpiry l p) := by
  unfold ackExpiry
  split
  · exact kept_retryLane l p
  · exact .refl p

theorem kept_backoffExpiry (l : Fin 2) (p : Part) : QueuesKept p (backoffExpiry l p) := by
  unfold backoffExpiry
  split
  · exact kept_modifyLane l _ p
  · exact .refl p

theorem kept_laneMillisecond (l : Fin 2) (p : Part) : QueuesKept p (laneMillisecond l p) := by
  unfold laneMillisecond
  split
  · split
    · exact kept_ackExpiry l p
    · exact kept_modifyLane l _ p
  · split
    · exact kept_backoffExpiry l p
    · exact kept_modifyLane l _ p
  · exact .refl p

theorem kept_abandonRecord (l : Fin 2) (id : Nat) (p : Part) : QueuesKept p (abandonRecord l id p) := by
  unfold abandonRecord
  dsimp only
  split <;> exact (kept_modifyLane l _ p).trans ((kept_postReport _ _).trans (kept_beginStaging l _))

theorem kept_clearHalt (l : Fin 2) (p : Part) : QueuesKept p (clearHalt l p) :=
  (kept_modifyLane l _ p).trans (kept_beginStaging l _)

theorem kept_completeDelivery (l : Fin 2) (id : Nat) (p : Part) : QueuesKept p (completeDelivery l id p) := by
  unfold completeDelivery
  extract_lets counted
  refine (kept_modifyLane l _ p : QueuesKept p counted).trans ?_
  split
  · split
    · exact kept_modifyRecord id _ _
    · exact kept_freeAndReexamine id _
  · exact .refl _

theorem kept_acceptPacket (l : Fin 2) (a : Awaiting) (p : Part) : QueuesKept p (acceptPacket l a p) := by
  unfold acceptPacket
  refine (kept_modifyLane l (settledLane a) p).trans (.trans ?_ ((kept_modifyLane l flippedLane _).trans (kept_beginStaging l _)))
  split
  · exact kept_completeDelivery l a.recordId _
  · exact .refl _

theorem kept_verdictEffect (l : Fin 2) (a : Awaiting) (v : Verdict) (p : Part) : QueuesKept p (verdictEffect l a v p) := by
  have hstale : QueuesKept p (staleAck l p) := kept_modifyLane l _ p
  have hnoted := kept_modifyLane l (fun ln => { ln with haltNoted := true }) p
  have hheld := kept_modifyLane l heldLane p
  have hretry := kept_retryLane l p
  have hhalt := kept_haltLane l .host p
  have haccept := kept_acceptPacket l a p
  unfold verdictEffect
  split <;> (try split) <;> assumption

theorem kept_takeAck (lane seq verdict : Byte) (p : Part) : QueuesKept p (takeAck lane seq verdict p) := by
  unfold takeAck
  dsimp only
  split
  · exact kept_verdictEffect _ _ _ p
  · exact kept_modifyLane _ _ p

theorem kept_ackArrives (lane seq verdict : Byte) (p : Part) : QueuesKept p (ackArrives lane seq verdict p) :=
  (kept_parserToHunt p).trans (kept_takeAck lane seq verdict _)

/-! #### The Range Controller, the Trigger Unit and the Sampler -/

/-- The changes that RNG makes when it takes a code keep the queues. -/
theorem kept_takeCode (ch : Fin 8) (code : SampleCode) (p : Part) : QueuesKept p (takeCode ch code p) :=
  takeCode_induct (P := QueuesKept p) (fun c f _ h => h.trans (kept_modifyChannel c f _)) (fun c _ h => h.trans (kept_detectorUnknown c _))
    (fun r _ h => h.trans (kept_postReport r _)) ch code (.refl p)

theorem kept_spanArrival (ch : Fin 8) (p : Part) : QueuesKept p (spanArrival ch p) := by
  unfold spanArrival
  split
  · exact (kept_modifyChannel ch _ p).trans (kept_takeCode ch _ _)
  · exact .refl p

theorem kept_settleSpans (p : Part) : QueuesKept p (settleSpans p) :=
  kept_foldl (fun q ch => kept_spanArrival ch q) allChannels p

theorem kept_cancelPass (ch : Fin 8) (p : Part) : QueuesKept p (cancelPass ch p) := by
  unfold cancelPass
  split
  · exact (kept_modifyChannel ch _ p).trans (kept_postReport _ _)
  · exact .refl p

theorem kept_clearLatches (p : Part) : QueuesKept p (clearLatches p) :=
  kept_foldl (fun q l => kept_modifyLine l _ q) allLines p

theorem kept_judgeDetectors (codes : Vector SampleCode 8) (p : Part) : QueuesKept p (judgeDetectors codes p) := by
  refine kept_foldl (fun q ch => ?_) allChannels p
  split
  · exact kept_modifyDetector ch _ q
  · exact .refl q

/-- An offer formed keeps the TRIGGER in execution (R51). -/
theorem offerFormed_run (tick : Nat) (sources : SourceSet) (soft : Option PlanSet) (u : TriggerUnit) :
    (offerFormed tick sources soft u).run.isSome = u.run.isSome := by
  unfold offerFormed
  cases u.run <;> cases soft <;> rfl

theorem kept_triggerTick (tick : Nat) (codes : Vector SampleCode 8) (p : Part) : QueuesKept p (triggerTick tick codes p) := by
  have hjudged : QueuesKept p (judgeDetectors codes (readLatches p)) :=
    (kept_foldl (fun q l => kept_modifyLine l _ q) allLines p).trans (kept_judgeDetectors codes _)
  unfold triggerTick
  generalize judgeDetectors codes (readLatches p) = q at hjudged
  extract_lets soft sources judged
  split
  · exact hjudged
  · exact hjudged.trans ⟨by simp only [Part.commandSide, offerFormed_run, judged], id, id⟩

theorem kept_writeHistory (tick : Nat) (codes : Vector SampleCode 8) (p : Part) : QueuesKept p (writeHistory tick codes p) := by
  refine kept_foldl (fun q ch => ?_) _ p
  exact ⟨rfl, id, id⟩

theorem kept_withSmp (m : Sampler) (p : Part) : QueuesKept p { p with smp := m } := ⟨rfl, id, id⟩

theorem kept_tickEvent (inputs : Vector Int 8) (p : Part) : QueuesKept p (tickEvent inputs p) := by
  unfold tickEvent
  split
  · extract_lets tick settled codes copied written sampled triggered observed
    have hcopied : QueuesKept settled copied := kept_foldl (fun q w => kept_copyBeforeLoss tick w q) allSlots settled
    have hobserved : QueuesKept triggered observed := kept_foldl (fun q ch => kept_modifyChannel ch _ q) _ triggered
    exact (((kept_settleSpans p).trans hcopied).trans ((kept_writeHistory tick codes copied).trans (kept_withSmp _ _))).trans
      ((kept_triggerTick tick codes sampled).trans (hobserved.trans (kept_foldl (fun q w => kept_liveTick tick codes w q) allSlots _)))
  · exact .refl p

theorem kept_stopSampler (p : Part) : QueuesKept p (stopSampler p) := by
  unfold stopSampler
  extract_lets sampler cleared expired closed halted
  have hcleared : QueuesKept p cleared := (kept_withSmp _ p).trans (kept_clearLatches _)
  have hexpired : QueuesKept cleared expired := kept_foldl (fun q j => kept_expireJob .samplingStopped j q) p.jobs cleared
  have hclosed : QueuesKept expired closed := kept_foldl (fun q w => kept_sealWindow false w q) allSlots expired
  have hhalted : QueuesKept closed halted := by
    refine kept_foldl (fun q i => ?_) allPlans closed
    split
    · exact kept_haltPlan i .samplingStopped 0 q
    · exact .refl q
  exact (hcleared.trans hexpired).trans ((hclosed.trans hhalted).trans (kept_foldl (fun q ch => kept_cancelPass ch q) allChannels halted))

theorem kept_startSampler (p : Part) : QueuesKept p (startSampler p) := by
  unfold startSampler
  extract_lets settled sampler emptied started unknown cleared
  have hsettled : QueuesKept p settled := kept_settleSpans p
  clear_value settled
  have hemptied : QueuesKept p emptied := hsettled.trans ⟨rfl, id, id⟩
  have hstarted : QueuesKept emptied started := kept_foldl (fun q ch => kept_modifyChannel ch startChannel q) allChannels emptied
  have hunknown : QueuesKept started unknown := kept_foldl (fun q ch => kept_detectorUnknown ch q) allChannels started
  have hcleared : QueuesKept p cleared := (hemptied.trans hstarted).trans (hunknown.trans (kept_clearLatches unknown))
  clear_value cleared
  exact hcleared.trans ⟨rfl, id, id⟩

theorem kept_applyJudgement (o : Offer) (i : Fin 8) (j : Judgement) {p : Part} (h : j = .accepted → p.jobs.length < 8) :
    QueuesKept p (applyJudgement o i j p) := by
  cases j with
  | ignored => exact ⟨rfl, id, id⟩
  | dropped reason => cases reason <;> exact (kept_modifyPlan i _ p).trans (kept_postReport _ _)
  | accepted => exact ⟨rfl, id, fun _ => by simpa [applyJudgement] using h rfl⟩

/-- A job is appended only to a queue with a free place (R37 step 3, R59). -/
theorem kept_judgePlan (o : Offer) (acc : Judged) (i : Fin 8) : QueuesKept acc.part (judgePlan o acc i).part := by
  unfold judgePlan
  split
  · exact .refl _
  · rename_i d _
    split
    · exact kept_applyJudgement o i .ignored nofun
    · exact kept_applyJudgement o i (.dropped _) nofun
    · rename_i haccepted
      refine kept_applyJudgement o i .accepted (fun _ => ?_)
      unfold judge Config.jobPlaces at haccepted
      by_contra hfull
      rw [if_pos (Nat.le_of_not_lt hfull)] at haccepted
      split at haccepted
      · cases haccepted
      · split at haccepted <;> cases haccepted

theorem kept_judgeOffer (o : Offer) (p : Part) : QueuesKept p (judgeOffer o p).part :=
  List.foldlRecOn (motive := fun acc : Judged => QueuesKept p acc.part) allPlans (judgePlan o) (.refl p)
    (fun acc hacc i _ => hacc.trans (kept_judgePlan o acc i))

/-! #### Commands -/

theorem kept_flush (p : Part) : QueuesKept p (flush p) := by
  unfold flush
  extract_lets emptied plans lanes
  have hemptied : QueuesKept p emptied := ⟨rfl, id, fun _ => Nat.zero_le _⟩
  have hplans : QueuesKept emptied plans := kept_foldl (fun q i => kept_modifyPlan i flushedPlan q) allPlans emptied
  have hlanes : QueuesKept plans lanes := (kept_modifyLane 0 flushedLane plans).trans (kept_modifyLane 1 flushedLane _)
  exact (hemptied.trans hplans).trans (hlanes.trans (kept_foldl (fun q c => kept_modifyChannel c _ q) allChannels lanes))

theorem kept_stopAbort (i : Fin 8) (p : Part) : QueuesKept p (stopAbort i p) := by
  unfold stopAbort
  extract_lets removed q
  refine (kept_fewerJobs (List.length_filter_le _ _) : QueuesKept p q).trans ?_
  split
  · exact (kept_sealWindow false _ q).trans ((kept_haltPlan _ _ _ _).trans (kept_reexamine _))
  · split
    · exact kept_haltPlan _ _ _ q
    · exact (kept_haltPlan _ _ _ q).trans (kept_reexamine _)

theorem kept_stopGraceful (i : Fin 8) (p : Part) : QueuesKept p (stopGraceful i p) := by
  unfold stopGraceful
  split
  · exact (kept_modifyPlan i _ p).trans (kept_planDoneIfIdle i _)
  · exact .refl p

theorem kept_setRange (ch : Fin 8) (range : Nat) (p : Part) : QueuesKept p (setRange ch range p) := by
  unfold setRange
  extract_lets arrived tick
  have harrived : QueuesKept p arrived := kept_spanArrival ch p
  clear_value arrived
  exact harrived.trans ⟨rfl, id, id⟩

theorem kept_setRangeMode (ch : Fin 8) (mode : RangeMode) (p : Part) : QueuesKept p (setRangeMode ch mode p) :=
  (kept_cancelPass ch p).trans (kept_modifyChannel ch _ _)

theorem kept_runReset (mode : Byte) (p : Part) : QueuesKept p (runReset mode p).1 := by
  unfold runReset
  split
  · exact .refl p
  · exact kept_flush p
  · exact .refl p

theorem kept_runSamplingSet (rate : Byte) (channels : BitVec 16) (p : Part) : QueuesKept p (runSamplingSet rate channels p).1 := by
  unfold runSamplingSet
  repeat' split
  all_goals exact ⟨rfl, id, id⟩

theorem kept_runSamplingStart (p : Part) : QueuesKept p (runSamplingStart p).1 := by
  unfold runSamplingStart
  split
  · exact .refl p
  · rw [taken_fst]
    exact kept_startSampler p

theorem kept_runSamplingStop (p : Part) : QueuesKept p (runSamplingStop p).1 := by
  unfold runSamplingStop
  split
  · rw [takenInTime_fst]
    exact kept_stopSampler p
  · exact .refl p

theorem kept_runRangeSet (channel range : Byte) (p : Part) : QueuesKept p (runRangeSet channel range p).1 := by
  unfold runRangeSet
  split
  · exact .refl p
  · split
    · exact .refl p
    · split
      · exact .refl p
      · split
        · exact .refl p
        · split
          · exact .refl p
          · exact kept_setRange _ _ p

theorem kept_runRangeMode (channel mode : Byte) (p : Part) : QueuesKept p (runRangeMode channel mode p).1 := by
  unfold runRangeMode
  split
  · split
    · exact .refl p
    · exact kept_setRangeMode _ _ p
  · exact .refl p

theorem kept_runExtlineSet (line enabled edge : Byte) (p : Part) : QueuesKept p (runExtlineSet line enabled edge p).1 := by
  unfold runExtlineSet
  split <;> exact ⟨rfl, id, id⟩

theorem kept_runDetectorSet (channel enabled : Byte) (threshold hysteresis : BitVec 16) (direction : Byte) (p : Part) :
    QueuesKept p (runDetectorSet channel enabled threshold hysteresis direction p).1 := by
  unfold runDetectorSet
  repeat' split
  all_goals exact ⟨rfl, id, id⟩

theorem kept_runPlanDefine (plan : Byte) (args : PlanArgs) (p : Part) : QueuesKept p (runPlanDefine plan args p).1 := by
  unfold runPlanDefine
  repeat' split
  all_goals exact ⟨rfl, id, id⟩

theorem kept_runPlanClear (plan : Byte) (p : Part) : QueuesKept p (runPlanClear plan p).1 := by
  unfold runPlanClear
  repeat' split
  all_goals exact ⟨rfl, id, id⟩

theorem kept_runPlanStart (plan : Byte) (p : Part) : QueuesKept p (runPlanStart plan p).1 := by
  unfold runPlanStart
  repeat' split
  all_goals exact ⟨rfl, id, id⟩

theorem kept_runPlanStop (plan mode : Byte) (p : Part) : QueuesKept p (runPlanStop plan mode p).1 := by
  unfold runPlanStop
  split
  · split
    · exact kept_stopGraceful _ p
    · exact .refl p
  · split
    · exact kept_stopAbort _ p
    · exact .refl p
  · exact .refl p

theorem kept_runRecordDiscard (id : BitVec 16) (p : Part) : QueuesKept p (runRecordDiscard id p).1 := by
  unfold runRecordDiscard
  split
  · exact .refl p
  · rename_i r _
    split
    · exact .refl p
    · exact (kept_modifyLane r.lane _ p).trans (kept_freeAndReexamine r.id _)
    · exact (kept_abandonRecord r.lane r.id p).trans (kept_freeAndReexamine r.id _)
    · exact kept_freeAndReexamine r.id p

theorem kept_runRecordRelease (id : BitVec 16) (p : Part) : QueuesKept p (runRecordRelease id p).1 := by
  unfold runRecordRelease
  split
  · exact .refl p
  · split
    · exact kept_freeAndReexamine _ p
    · exact .refl p

theorem kept_runRecordReplay (id : BitVec 16) (p : Part) : QueuesKept p (runRecordReplay id p).1 := by
  unfold runRecordReplay
  split
  · exact .refl p
  · split
    · exact (kept_modifyRecord _ _ p).trans (kept_handOff _ _ _)
    · exact .refl p

theorem kept_runLaneSet (lane k : Byte) (ackTimeout backoff : BitVec 16) (retryLimit : Byte) (p : Part) :
    QueuesKept p (runLaneSet lane k ackTimeout backoff retryLimit p).1 := by
  unfold runLaneSet
  repeat' split
  all_goals exact ⟨rfl, id, id⟩

theorem kept_runLaneClearHalt (lane : Byte) (p : Part) : QueuesKept p (runLaneClearHalt lane p).1 := by
  unfold runLaneClearHalt
  split
  · exact .refl p
  · split
    · exact kept_clearHalt _ p
    · exact .refl p

/-- All that a command can do to the queues before it is answered: nothing, or, a TRIGGER taken, the wait for its tick (R50, R161). -/
theorem runCommand_queues (c : Command) (p : Part) :
    QueuesKept p (runCommand c p).1 ∨ ∃ r : TriggerRun, runCommand c p = ({ p with trg := { p.trg with run := some r } }, .waits) := by
  cases c with
  | inquire => exact .inl (.refl p)
  | status => exact .inl (.refl p)
  | reset mode => exact .inl (kept_runReset mode p)
  | samplingSet rate channels => exact .inl (kept_runSamplingSet rate channels p)
  | samplingStart => exact .inl (kept_runSamplingStart p)
  | samplingStop => exact .inl (kept_runSamplingStop p)
  | rangeSet channel range => exact .inl (kept_runRangeSet channel range p)
  | rangeMode channel mode => exact .inl (kept_runRangeMode channel mode p)
  | channelGet channel => exact .inl (.of_fst (runChannelGet_fst channel p))
  | extlineSet line enabled edge => exact .inl (kept_runExtlineSet line enabled edge p)
  | detectorSet channel enabled threshold hysteresis direction => exact .inl (kept_runDetectorSet _ _ _ _ _ p)
  | trigger mask =>
    simp only [runCommand, runTrigger]
    split
    · exact .inl (.refl p)
    · split
      · exact .inr ⟨_, rfl⟩
      · exact .inl (.refl p)
  | planDefine plan definition => exact .inl (kept_runPlanDefine plan definition p)
  | planClear plan => exact .inl (kept_runPlanClear plan p)
  | planStart plan => exact .inl (kept_runPlanStart plan p)
  | planStop plan mode => exact .inl (kept_runPlanStop plan mode p)
  | planGet plan => exact .inl (.of_fst (runPlanGet_fst plan p))
  | recordList => exact .inl (.refl p)
  | recordDiscard id => exact .inl (kept_runRecordDiscard id p)
  | recordRelease id => exact .inl (kept_runRecordRelease id p)
  | recordReplay id => exact .inl (kept_runRecordReplay id p)
  | laneSet lane k ackTimeout backoff retryLimit => exact .inl (kept_runLaneSet _ _ _ _ _ p)
  | laneClearHalt lane => exact .inl (kept_runLaneClearHalt lane p)
  | laneGet lane => exact .inl (.of_fst (runLaneGet_fst lane p))

theorem runPayload_queues (payload : List Byte) (p : Part) :
    QueuesKept p (runPayload payload p).1 ∨
      ∃ r : TriggerRun, runPayload payload p = ({ p with trg := { p.trg with run := some r } }, .waits) := by
  unfold runPayload
  split
  · exact .inl (.refl p)
  · exact .inl (.refl p)
  · exact runCommand_queues _ p

/-! ### The queues within their places -/

/-- QueuesWithinCapacity without its two parts that follow from the others: at most four reserved entries, and at most eight in all. -/
structure QueuesWithin (p : Part) : Prop where
  load : intakeLoad p.lnk ≤ 4
  unreserved : unreservedInUse p.lnk ≤ 4
  resetAnswer : (p.lnk.responses.filter (fun r => r.resetFull)).length ≤ p.lnk.resetting.toNat
  single : p.trg.run.isSome.toNat + p.lnk.finishing.toNat + p.lnk.resetting.toNat ≤ 1
  held : executing p = true → p.lnk.intake ≠ []
  reports : p.lnk.reports.length ≤ 16 ∧ p.lnk.lost ≤ 255
  jobs : p.jobs.length ≤ 8

/-- The responses are those in reserved and those in unreserved entries. -/
theorem responses_length (x : Link) : x.responses.length = reservedInUse x + unreservedInUse x :=
  List.length_eq_length_filter_add _

/-- A reserved entry holds the response of an admitted command, which the load counts, or the OK of a RESET FULL (R160). -/
theorem reservedInUse_le (x : Link) :
    reservedInUse x + x.intake.length ≤ intakeLoad x + (x.responses.filter (fun r => r.resetFull)).length := by
  unfold reservedInUse intakeLoad
  induction x.responses with
  | nil => simp
  | cons r rs ih => cases hr : r.reserved <;> cases hf : r.resetFull <;> simp [hr, hf] <;> omega

theorem queuesWithin_iff (p : Part) : QueuesWithinCapacity p ↔ QueuesWithin p := by
  have hheld : executing p = true ↔ p.trg.run.isSome = true ∨ p.lnk.finishing = true ∨ p.lnk.resetting = true := by
    simp [executing, or_assoc]
  have htoNat : (if p.lnk.resetting then 1 else 0) = p.lnk.resetting.toNat := by cases p.lnk.resetting <;> rfl
  constructor
  · rintro ⟨hload, hunreserved, -, -, hreset, hsingle, hexec, hreports, hlost, hjobs⟩
    exact ⟨hload, hunreserved, htoNat ▸ hreset, hsingle, fun h => hexec (hheld.1 h), ⟨hreports, hlost⟩, hjobs⟩
  · intro h
    have hreserved : reservedInUse p.lnk ≤ 4 := by
      have hle := reservedInUse_le p.lnk
      have hload := h.load
      have hreset := h.resetAnswer
      cases hr : p.lnk.resetting with
      | false =>
        simp only [hr, Bool.toNat_false] at hreset
        omega
      | true =>
        have hintake := List.length_pos_iff.2 (h.held (hheld.2 (.inr (.inr hr))))
        simp only [hr, Bool.toNat_true] at hreset
        omega
    have hall : p.lnk.responses.length ≤ 8 := by
      have hsum := responses_length p.lnk
      have hunreserved := h.unreserved
      omega
    exact ⟨h.load, h.unreserved, hreserved, hall, htoNat ▸ h.resetAnswer, h.single, fun he => h.held (hheld.2 he), h.reports.1,
      h.reports.2, h.jobs⟩

/-- What keeps the command side and the other queues' places keeps all of them within their places. -/
theorem QueuesWithin.kept {p q : Part} (h : QueuesWithin p) (hkept : QueuesKept p q) : QueuesWithin q := by
  obtain ⟨hintake, htrigger, hfinishing, hresetting, hresponses⟩ := (CommandSide.mk.injEq ..).mp hkept.commands
  refine ⟨?_, ?_, ?_, ?_, ?_, hkept.reports h.reports, hkept.jobs h.jobs⟩
  · rw [intakeLoad, hintake, hresponses]
    exact h.load
  · rw [unreservedInUse, hresponses]
    exact h.unreserved
  · rw [hresponses, hresetting]
    exact h.resetAnswer
  · rw [htrigger, hfinishing, hresetting]
    exact h.single
  · rw [executing, htrigger, hfinishing, hresetting, hintake]
    exact h.held

theorem executing_kept {p q : Part} (hkept : QueuesKept p q) : executing q = executing p := by
  obtain ⟨-, htrigger, hfinishing, hresetting, -⟩ := (CommandSide.mk.injEq ..).mp hkept.commands
  rw [executing, executing, htrigger, hfinishing, hresetting]

/-! ### Answers, admissions and frame starts -/

/-- With no command in execution none of the three kinds is under way. -/
theorem executing_eq_false {p : Part} :
    executing p = false ↔ p.trg.run.isSome = false ∧ p.lnk.finishing = false ∧ p.lnk.resetting = false := by
  simp [executing, and_assoc]

/-- An answer moves its command from the intake queue to a reserved entry: the load stays (R160, R161). -/
theorem within_answerHead (status : Status) (results : List Byte) {p : Part} (hidle : executing p = false) (h : QueuesWithin p) :
    QueuesWithin (answerHead status results p) := by
  unfold answerHead
  split
  · exact h
  · rename_i c rest hintake
    have hload := h.load
    rw [intakeLoad, hintake, List.length_cons] at hload
    refine ⟨?_, ?_, ?_, h.single, fun he => ?_, h.reports, h.jobs⟩
    · simp only [queueResponse, intakeLoad, commandResponse, List.filter_append, List.length_append]
      simp
      omega
    · simpa [queueResponse, unreservedInUse, commandResponse] using h.unreserved
    · simpa [queueResponse, commandResponse] using h.resetAnswer
    · have hexec : executing p = true := he
      simp [hidle] at hexec

/-- RESET FULL's OK takes an entry while its command stays in execution: the load counts it once (R160, R169). -/
theorem within_answerReset {p : Part} (hidle : executing p = false) (h : QueuesWithin p) : QueuesWithin (answerReset p) := by
  obtain ⟨hrun, hfinishing, hresetting⟩ := executing_eq_false.1 hidle
  unfold answerReset
  split
  · exact h
  · rename_i c rest hintake
    refine ⟨?_, ?_, ?_, ?_, fun _ => ?_, h.reports, h.jobs⟩
    · simpa [queueResponse, intakeLoad] using h.load
    · simpa [queueResponse, unreservedInUse, commandResponse] using h.unreserved
    · have hreset := h.resetAnswer
      rw [hresetting] at hreset
      simpa [queueResponse] using hreset
    · simp [queueResponse, hrun, hfinishing]
    · simp [queueResponse, hintake]

/-- A command that begins with none in execution keeps the queues within their places, however it is answered (R161). -/
theorem within_execute {c : IntakeCommand} {rest : List IntakeCommand} {p : Part} (hintake : p.lnk.intake = c :: rest)
    (hidle : executing p = false) (h : QueuesWithin p) : QueuesWithin (applyReply (runPayload c.payload p)) := by
  have hbusy : p.lnk.intake ≠ [] := hintake ▸ List.cons_ne_nil c rest
  rcases runPayload_queues c.payload p with hkept | ⟨r, hwaits⟩
  · generalize runPayload c.payload p = x at hkept
    obtain ⟨q, reply⟩ := x
    have hq : QueuesWithin q := h.kept hkept
    have hqidle : executing q = false := (executing_kept hkept).trans hidle
    obtain ⟨hrun, hfinishing, hresetting⟩ := executing_eq_false.1 hqidle
    have hqbusy : q.lnk.intake ≠ [] := by rwa [show q.lnk.intake = p.lnk.intake from congrArg CommandSide.intake hkept.commands]
    cases reply with
    | done status results => exact within_answerHead status results hqidle hq
    | waits => exact hq
    | takesTime =>
      exact ⟨hq.load, hq.unreserved, hq.resetAnswer, by simp [applyReply, hrun, hresetting], fun _ => hqbusy, hq.reports, hq.jobs⟩
    | resets => exact within_answerReset hqidle hq
  · obtain ⟨-, hfinishing, hresetting⟩ := executing_eq_false.1 hidle
    rw [hwaits]
    exact ⟨h.load, h.unreserved, h.resetAnswer, by simp [applyReply, hfinishing, hresetting], fun _ => hbusy, h.reports, h.jobs⟩

theorem within_drain {p : Part} (h : QueuesWithin p) : QueuesWithin (drain p) :=
  drain_induct (P := QueuesWithin) (fun _ _ _ hintake hidle hq => within_execute hintake hidle hq) h

/-- The end of an execution that takes time (R161). -/
theorem within_finishExecution {p : Part} (hfinishing : p.lnk.finishing = true) (h : QueuesWithin p) : QueuesWithin (finishExecution p) := by
  have hsingle := h.single
  have hidle : executing { p with lnk := { p.lnk with finishing := false } } = false := by
    cases hrun : p.trg.run.isSome <;> cases hresetting : p.lnk.resetting <;> simp_all [executing]
  have hended : QueuesWithin { p with lnk := { p.lnk with finishing := false } } :=
    ⟨h.load, h.unreserved, h.resetAnswer, by simp only [Bool.toNat_false]; omega, fun he => absurd he (by rw [hidle]; decide),
      h.reports, h.jobs⟩
  exact within_drain (within_answerHead .ok [] hidle hended)

/-- The end of a TRIGGER's execution (R52, R132). -/
theorem within_endTrigger (status : Status) (results : List Byte) {p : Part} (hrun : p.trg.run.isSome = true) (h : QueuesWithin p) :
    QueuesWithin (endTrigger status results p) := by
  have hsingle := h.single
  have hidle : executing { p with trg := { p.trg with run := none } } = false := by
    cases hfinishing : p.lnk.finishing <;> cases hresetting : p.lnk.resetting <;> simp_all [executing]
  have hended : QueuesWithin { p with trg := { p.trg with run := none } } :=
    ⟨h.load, h.unreserved, h.resetAnswer, by simp only [Option.isSome_none, Bool.toNat_false]; omega,
      fun he => absurd he (by rw [hidle]; decide), h.reports, h.jobs⟩
  exact within_drain (within_answerHead status results hidle hended)

theorem kept_linkError (cause : LinkCause) (tag : Option Byte) (p : Part) : QueuesKept p (linkError cause tag p) :=
  (⟨rfl, id, id⟩ : QueuesKept p { p with lnk := { p.lnk with errors := countError cause p.lnk.errors } }).trans (kept_postReport _ _)

theorem kept_discardFrame (cause : LinkCause) (tag : Option Byte) (p : Part) : QueuesKept p (discardFrame cause tag p) :=
  (kept_parserToHunt p).trans (kept_linkError cause tag _)

/-- A refusal takes a free unreserved entry, or the frame is discarded (R159). -/
theorem within_refuseFrame (tag : Byte) (payload : List Byte) (status : Status) {p : Part} (h : QueuesWithin p) :
    QueuesWithin (refuseFrame tag payload status p) := by
  unfold refuseFrame
  split
  · rename_i hroom
    refine ⟨?_, ?_, ?_, h.single, h.held, h.reports, h.jobs⟩
    · simpa [queueResponse, intakeLoad] using h.load
    · have hroom : unreservedInUse p.lnk + 1 ≤ 4 := hroom
      simpa [queueResponse, unreservedInUse] using hroom
    · simpa [queueResponse] using h.resetAnswer
  · exact h.kept (kept_linkError _ _ p)

/-- A command is admitted only below the largest load (R159, R160). -/
theorem within_takeCommand (tag : Byte) (payload : List Byte) {p : Part} (h : QueuesWithin p) : QueuesWithin (takeCommand tag payload p) := by
  unfold takeCommand
  split
  · exact within_refuseFrame _ _ _ h
  · split
    · exact within_refuseFrame _ _ _ h
    · split
      · exact within_refuseFrame _ _ _ h
      · rename_i hload
        refine within_drain ⟨?_, h.unreserved, h.resetAnswer, h.single, fun _ => by simp, h.reports, h.jobs⟩
        simp only [intakeLoad, Config.intakePlaces] at hload ⊢
        simp
        omega

theorem within_commandArrives (tag : Byte) (payload : List Byte) {p : Part} (h : QueuesWithin p) :
    QueuesWithin (commandArrives tag payload p) :=
  within_takeCommand tag payload (h.kept (kept_parserToHunt p))

theorem within_hostCommand (tag : Byte) (c : Command) {p : Part} (h : QueuesWithin p) : QueuesWithin (hostCommand tag c p) :=
  within_commandArrives tag (encodeCommand c) h

/-- A frame start takes at most one response or report off its queue (R165). -/
theorem within_startFrame {p : Part} (h : QueuesWithin p) : QueuesWithin (startFrame p) := by
  rcases startFrame_spec p with ⟨hs, -⟩ | ⟨r, rest, -, hr, hs⟩ | ⟨q, rest, -, -, hq, hs⟩ | ⟨l, k, -, -, -, -, hs⟩ <;> rw [hs]
  · exact h
  · have hless : ∀ f : Response → Bool, (rest.filter f).length ≤ (p.lnk.responses.filter f).length := by
      intro f
      rw [hr]
      exact ((List.sublist_cons_self r rest).filter f).length_le
    exact ⟨(Nat.add_le_add_left (hless _) _).trans h.load, (hless _).trans h.unreserved, (hless _).trans h.resetAnswer, h.single, h.held,
      h.reports, h.jobs⟩
  · refine h.kept ⟨rfl, fun hp => ?_, id⟩
    rw [hq, List.length_cons] at hp
    exact ⟨(Nat.le_succ _).trans hp.1, hp.2⟩
  · rw [startData_frame]
    exact h.kept ⟨rfl, id, id⟩

theorem kept_announced (p : Part) : QueuesKept p (announced p) := ⟨rfl, id, id⟩

theorem within_arbitrated {p : Part} (h : QueuesWithin p) : QueuesWithin (arbitrated p) :=
  within_startFrame (h.kept (kept_announced p))

theorem within_partFound (lanes : Fin 2 → Bool) {p : Part} (h : QueuesWithin p) : QueuesWithin (partFound lanes p) := by
  unfold partFound
  split
  · exact h.kept (kept_announced p)
  · exact within_arbitrated h

theorem within_startAfter (lanes : Fin 2 → Bool) (p : Part) {q : Part} (h : QueuesWithin q) : QueuesWithin (startAfter lanes p q) := by
  unfold startAfter
  split
  · exact within_arbitrated h
  · exact h

/-! ### The parser, frames, offers and time -/

theorem within_judgeKind (kind tag : Byte) (payload : List Byte) {p : Part} (h : QueuesWithin p) :
    QueuesWithin (judgeKind kind tag payload p) := by
  unfold judgeKind
  split
  · exact within_commandArrives tag payload h
  · split
    · split
      · exact h.kept (kept_ackArrives _ _ _ p)
      · exact h.kept (kept_discardFrame _ _ p)
    · exact h.kept (kept_discardFrame _ _ p)

theorem within_judgeFrame (kept : List Byte) (crcLow crcHigh : Byte) {p : Part} (h : QueuesWithin p) :
    QueuesWithin (judgeFrame kept crcLow crcHigh p) := by
  unfold judgeFrame
  split
  · split
    · exact within_judgeKind _ _ _ h
    · exact h.kept (kept_discardFrame _ _ p)
  · exact h.kept (kept_discardFrame _ _ p)

theorem kept_takeLengthByte (b : Byte) (x : Parser) (p : Part) : QueuesKept p (takeLengthByte b x p) := by
  unfold takeLengthByte
  split
  · exact kept_setParser _ p
  · split
    · exact kept_setParser _ p
    · exact kept_discardFrame _ _ p

theorem within_parseByte (b : Byte) {p : Part} (h : QueuesWithin p) : QueuesWithin (parseByte b p) := by
  unfold parseByte
  split
  · split
    · exact h.kept (kept_setParser _ p)
    · exact h
  · exact h.kept (kept_takeLengthByte b _ p)
  · exact h.kept (kept_setParser _ p)
  · unfold takeCheckByte
    split
    · exact h.kept (kept_setParser _ p)
    · exact within_judgeFrame _ _ b h

/-- A device reset leaves every queue empty but for RESET_DONE (R171). -/
theorem within_deviceReset (cause : ResetCause) (pins : ResetPins) (p : Part) : QueuesWithin (deviceReset cause pins p) := by
  have hcleared : QueuesWithin (Part.cleared pins p.history p.blocks) :=
    ⟨Nat.zero_le _, Nat.zero_le _, Nat.le_refl 0, Nat.zero_le _, nofun, ⟨Nat.zero_le _, Nat.zero_le _⟩, Nat.zero_le _⟩
  exact hcleared.kept (kept_postReport _ _)

theorem within_completeFrame (pins : ResetPins) {p : Part} (h : QueuesWithin p) : QueuesWithin (completeFrame pins p) := by
  have hfree : QueuesWithin { p with lnk := { p.lnk with inFlight := none } } := h.kept ⟨rfl, id, id⟩
  unfold completeFrame
  split
  · split
    · unfold cargoArrived
      split
      · exact within_deviceReset .command pins _
      · exact hfree
      · exact hfree
      · exact hfree.kept (kept_completeLane _ _)
    · exact h
  · exact h

theorem within_byteArrives (b : Byte) (pins : ResetPins) {p : Part} (h : QueuesWithin p) : QueuesWithin (byteArrives b pins p) := by
  unfold byteArrives
  split
  · exact within_parseByte b h
  · exact within_completeFrame pins (within_parseByte b (h.kept (kept_exchangeByte p)))

theorem within_frameStarts {p : Part} (h : QueuesWithin p) : QueuesWithin (frameStarts p) := by
  unfold frameStarts
  split
  · rename_i hends
    exact within_arbitrated (within_finishExecution hends.1 h)
  · exact h

/-- A TRIGGER that has fired is in execution. -/
theorem triggering_of_firedAt {p : Part} {tick : Nat} (h : firedAt p tick = true) : p.trg.run.isSome = true := by
  unfold firedAt at h
  split at h
  · rename_i r hr
    rw [hr]
    rfl
  · cases h

theorem within_handleOffer (o : Offer) {p : Part} (h : QueuesWithin p) : QueuesWithin (handleOffer o p) := by
  unfold handleOffer
  extract_lets j examined
  have hjudged : QueuesKept p j.part := kept_judgeOffer o p
  have hexamined : QueuesWithin examined := by
    unfold examined
    split
    · exact h.kept hjudged
    · exact h.kept (hjudged.trans (kept_reexamine _))
  split
  · rename_i hfired
    exact within_endTrigger _ _ (triggering_of_firedAt hfired) hexamined
  · exact hexamined

theorem within_takeOffer {p : Part} (h : QueuesWithin p) : QueuesWithin (takeOffer p) := by
  unfold takeOffer
  split
  · exact h
  · exact within_handleOffer _ (h.kept ⟨rfl, id, id⟩)

theorem within_tickLimitStop {p : Part} (h : QueuesWithin p) : QueuesWithin (tickLimitStop p) := by
  unfold tickLimitStop
  split
  · extract_lets stopped
    have hstopped : QueuesWithin stopped := h.kept ((kept_stopSampler p).trans (kept_postReport _ _))
    split
    · rename_i hrun
      exact within_endTrigger _ _ hrun hstopped
    · exact hstopped
  · exact h

theorem kept_gapExpires (p : Part) : QueuesKept p (gapExpires p) := by
  unfold gapExpires
  split
  · split
    · exact .refl p
    · exact kept_discardFrame _ _ p
  · exact .refl p

theorem kept_csRises (p : Part) : QueuesKept p (csRises p) := by
  unfold csRises
  split
  · split
    · exact .refl p
    · exact kept_discardFrame _ _ p
  · exact .refl p

theorem kept_gapMillisecond (p : Part) : QueuesKept p (gapMillisecond p) := by
  unfold gapMillisecond
  split
  · split
    · exact .refl p
    · split
      · exact kept_gapExpires p
      · exact kept_setParser _ p
  · exact .refl p

theorem within_elapse {p : Part} (h : QueuesWithin p) : QueuesWithin (elapse p) := by
  unfold elapse
  split
  · rename_i hfinishing
    exact within_finishExecution hfinishing h
  · exact h.kept ((kept_laneMillisecond 0 p).trans ((kept_laneMillisecond 1 _).trans (kept_gapMillisecond _)))

/-! ### Every step keeps the queues within their places -/

theorem within_onPart {f : Part → Part} (hf : ∀ {p}, QueuesWithin p → QueuesWithin (f p)) {s t : State} (h : onPart f s = .next t)
    (hs : QueuesWithin s.part) : QueuesWithin t.part := by
  rw [onPart_next h]
  exact hf hs

theorem within_onEvent {f : Part → Part} (hf : ∀ {p}, QueuesWithin p → QueuesWithin (f p)) {s t : State} (h : onEvent f s = .next t)
    (hs : QueuesWithin s.part) : QueuesWithin t.part :=
  within_onPart (fun hp => hf (within_arbitrated hp)) h hs

theorem within_onMeeting {lanes : Fin 2 → Bool} {f : Part → Part} (hf : ∀ {p}, QueuesWithin p → QueuesWithin (f p)) {s t : State}
    (h : onMeeting lanes f s = .next t) (hs : QueuesWithin s.part) : QueuesWithin t.part :=
  within_onPart (fun {p} hp => within_startAfter lanes p (hf (within_partFound lanes hp))) h hs

theorem within_exec {i : Instr} {s t : State} (h : exec i s = .next t) (hs : QueuesWithin s.part) : QueuesWithin t.part := by
  cases i with
  | powerOn pins => exact within_onPart (fun {p} _ => within_deviceReset .power pins p) h hs
  | resetPin pins => exact within_onPart (fun {p} _ => within_deviceReset .pin pins p) h hs
  | extEdge line level => exact within_onEvent (fun {p} hp => hp.kept (kept_modifyLine line _ p)) h hs
  | tickEvent inputs => exact within_onEvent (fun {p} hp => hp.kept (kept_tickEvent inputs p)) h hs
  | spanEnd channel => exact within_onEvent (fun {p} hp => hp.kept (kept_spanArrival channel p)) h hs
  | tickLimitStop => exact within_onEvent within_tickLimitStop h hs
  | offer => exact within_onEvent within_takeOffer h hs
  | jobExpiry => exact within_onEvent (fun {p} hp => hp.kept (kept_expireByHistory p)) h hs
  | copyEnd slot => exact within_onEvent (fun {p} hp => hp.kept (kept_endCopy slot p)) h hs
  | windowSeal slot => exact within_onEvent (fun {p} hp => hp.kept (kept_sealEnded slot p)) h hs
  | stagingEnd lane buffer => exact within_onEvent (fun {p} hp => hp.kept (kept_endStaging lane buffer p)) h hs
  | frameStart => exact within_onEvent within_frameStarts h hs
  | frameComplete pins => exact within_onEvent (within_completeFrame pins) h hs
  | ack lane seq verdict => exact within_onMeeting (fun {p} hp => hp.kept (kept_ackArrives lane seq verdict p)) h hs
  | ackTimerExpiry lane => exact within_onEvent (fun {p} hp => hp.kept (kept_ackExpiry lane p)) h hs
  | backoffTimerExpiry lane => exact within_onEvent (fun {p} hp => hp.kept (kept_backoffExpiry lane p)) h hs
  | commandFrame tag payload => exact within_onMeeting (within_commandArrives tag payload) h hs
  | frameDiscard fault tag => exact within_onEvent (fun {p} hp => hp.kept (kept_discardFrame _ tag p)) h hs
  | gapExpiry => exact within_onEvent (fun {p} hp => hp.kept (kept_gapExpires p)) h hs
  | csRise => exact within_onEvent (fun {p} hp => hp.kept (kept_csRises p)) h hs
  | unknownCommand tag payload => exact within_onMeeting (within_commandArrives tag payload) h hs
  | resetFlush tag => exact within_onMeeting (within_hostCommand tag _) h hs
  | recordDiscard tag id => exact within_onMeeting (within_hostCommand tag _) h hs
  | inboundByte arrival => exact within_onMeeting (within_byteArrives arrival.value arrival.pins) h hs
  | catchUpCopyFrame slot => exact within_onEvent (fun {p} hp => hp.kept (kept_copyFrame slot p)) h hs
  | _ => exact within_onEvent (within_hostCommand _ _) h hs

/-- Settles O58: every operation but LNK's own keeps the command side; an answer and an admission keep the load, and a refusal, a report and a job
need a free place. -/
theorem everyStepKeepsQueuesWithinCapacity : Obligations.EveryStepKeepsQueuesWithinCapacity := by
  intro s t hstep hs
  rw [queuesWithin_iff] at hs ⊢
  unfold step at hstep
  split at hstep
  · rename_i c rest _
    exact within_exec (s := { s with pending := rest }) hstep hs
  · exact within_onEvent within_elapse hstep hs

end Sys2Proof.Machine
end

section
/-!
SUPPORT. WINDOW_SEAL (R73), from what steps 1 to 6 leave to the plan's move to DONE and the re-examination, and its statement.
-/

namespace Sys2Proof.Machine

/-- Only an ENDED window is completed. -/
theorem sealEnded_other {p : Part} {w : Fin 4} (h : ∀ x : Window, p.slots[w] = some x → x.phase ≠ .ended) : sealEnded w p = p := by
  unfold sealEnded
  split
  · rename_i x hx
    exact if_neg (h x hx)
  · rfl

theorem sealEnded_ended {p : Part} {w : Fin 4} {x : Window} (hx : p.slots[w] = some x) (hended : x.phase = .ended) :
    sealEnded w p = reexamine (planDoneIfIdle x.plan (sealRecord w x p)) := by
  simp only [sealEnded, sealWindow, hx, if_pos hended, if_true]

/-- After steps 1 to 6 of a seal the plan has no OPEN record: it moves to DONE if it drains and none of its jobs is pending (R30, R73 step 7). -/
theorem planDoneIfIdle_sealed {w : Fin 4} {x : Window} {r : Record} {p q : Part} (h : SealedFrom w x r p q) :
    planDoneIfIdle x.plan q =
      if p.plans[x.plan].state = .draining ∧ ∀ j ∈ p.jobs, j.plan ≠ x.plan then
        postReport (.planState x.plan .done none 0) { q with plans := q.plans.set x.plan.val { q.plans[x.plan] with state := .done } }
      else q := by
  have hplan : q.plans[x.plan] = { p.plans[x.plan] with openRecord := none } := by
    rw [h.plans]
    exact Vector.getElem_set_self _
  have hjobs : q.jobs = p.jobs := by rw [h.rest]
  have hbusy : planBusy q x.plan = false ↔ ∀ j ∈ p.jobs, j.plan ≠ x.plan := by
    rw [← Bool.not_eq_true, planBusy_iff, hplan, hjobs]
    simp
  unfold planDoneIfIdle
  simp only [hbusy, congrArg Plan.state hplan]
  rfl

/-- Settles O27: steps 1 to 6 leave what SealedFrom says, and the rest of the seal is the plan's move and the re-examination. -/
theorem windowSealCompletesTheRecord : Obligations.WindowSealCompletesTheRecord := by
  intro s p w hp
  have hexec : exec (.windowSeal w) s = .next (s.withPart (sealEnded w p)) := (onEvent_eq (sealEnded w) s).trans (by rw [hp])
  refine ⟨fun h => by rw [hexec, sealEnded_other h], fun x r hx hended hr => ?_⟩
  have hsealed := sealedFrom_sealRecord hr w
  exact ⟨sealRecord w x p, hsealed, by rw [hexec, sealEnded_ended hx hended, planDoneIfIdle_sealed hsealed]⟩

end Sys2Proof.Machine
end

section
/-!
SUPPORT. JOB_EXPIRY (R63): what one job's expiry leaves, what the expiry of all jobs that have left history leaves, and its statement.
-/

namespace Sys2Proof.Machine

/-! ### Reports posted one after another -/

/-- The link that posts leave depends on the link alone. -/
theorem postReports_lnk_congr : ∀ (reports : List Report) {p q : Part}, q.lnk = p.lnk →
    (postReports reports q).lnk = (postReports reports p).lnk
  | [], _, _, h => h
  | r :: reports, _, _, h => postReports_lnk_congr reports (postReport_lnk_congr r h)

theorem postReports_append (first second : List Report) (p : Part) :
    postReports (first ++ second) p = postReports second (postReports first p) :=
  List.foldl_append

/-- Posts change the link alone. -/
theorem postReports_frame (reports : List Report) (p : Part) :
    postReports reports p = { p with lnk := (postReports reports p).lnk } :=
  List.foldlRecOn (motive := fun q : Part => q = { p with lnk := q.lnk }) reports (fun q r => postReport r q) rfl
    (fun (q : Part) hq r _ => (postReport_frame r q).trans (congrArg (fun u : Part => { u with lnk := (postReport r q).lnk }) hq))

/-- A post and a change of a plan come to the same in either order. -/
theorem modifyPlan_postReport (i : Fin 8) (f : Plan → Plan) (r : Report) (p : Part) :
    modifyPlan i f (postReport r p) = postReport r (modifyPlan i f p) := by
  unfold postReport
  rw [modifyPlan_lnk]
  split_ifs <;> rfl

/-! ### The expiry of one job -/

/-- What an expiry by history does with one job: it expires, and its plan moves to DONE where it comes to that (R63, R30). -/
def expireOne (p : Part) (j : Job) : Part :=
  planDoneIfIdle j.plan (expireJob .history j p)

/-- A DRAINING plan without an OPEN record whose pending jobs have all left history. -/
abbrev DrainsByHistory (p : Part) (oldest : Nat) (i : Fin 8) : Prop :=
  p.plans[i].state = .draining ∧ p.plans[i].openRecord = none ∧ ∀ k ∈ p.jobs, k.plan = i → k.tick < oldest

/-- The reports of an expiry, with the drained plans named. -/
theorem expiryReports_cons (p : Part) (oldest : Nat) (j : Job) (gone : List Job) : expiryReports p oldest (j :: gone) =
    (.jobExpired j.plan j.tick .history ::
      if DrainsByHistory p oldest j.plan ∧ ∀ k ∈ gone, k.plan ≠ j.plan then [.planState j.plan .done none 0] else []) ++
      expiryReports p oldest gone := by
  have hcond : (p.plans[j.plan].state = .draining ∧ p.plans[j.plan].openRecord = none ∧ (∀ k ∈ gone, k.plan ≠ j.plan) ∧
      (∀ k ∈ p.jobs, k.plan = j.plan → k.tick < oldest)) ↔ DrainsByHistory p oldest j.plan ∧ ∀ k ∈ gone, k.plan ≠ j.plan := by
    unfold DrainsByHistory
    tauto
  simp only [expiryReports, hcond, List.cons_append]

section OneJob

variable {p : Part} {oldest : Nat} {j : Job} {gone : List Job} (hgone : p.jobs.filter (fun k => decide (k.tick < oldest)) = j :: gone)
include hgone

theorem gone_head : j.tick < oldest := by
  have hj : j ∈ p.jobs.filter (fun k => decide (k.tick < oldest)) := hgone ▸ List.mem_cons_self
  simpa using (List.mem_filter.1 hj).2

/-- The jobs that have left history, without the first of them. -/
theorem gone_tail : (p.jobs.erase j).filter (fun k => decide (k.tick < oldest)) = gone := by
  rw [← List.erase_filter, hgone, List.erase_cons_head]

/-- The first job gone leaves those that history holds. -/
theorem held_erase : (p.jobs.erase j).filter (fun k => decide (oldest ≤ k.tick)) = p.jobs.filter (fun k => decide (oldest ≤ k.tick)) := by
  have hhead := gone_head hgone
  rw [← List.erase_filter]
  exact List.erase_of_not_mem (fun hj => absurd (List.mem_filter.1 hj).2 (by simpa using hhead))

/-- A plan's jobs in history are the same before and after the first job is gone. -/
theorem expired_iff_erase (i : Fin 8) : (∀ k ∈ p.jobs.erase j, k.plan = i → k.tick < oldest) ↔ ∀ k ∈ p.jobs, k.plan = i → k.tick < oldest := by
  refine ⟨fun h k hk hi => ?_, fun h k hk => h k (List.mem_of_mem_erase hk)⟩
  by_cases hkj : k = j
  · exact hkj ▸ gone_head hgone
  · exact h k ((List.mem_erase_of_ne hkj).2 hk) hi

/-- No job of a plan is left behind the first exactly if none has left history after it and history holds none. -/
theorem no_job_erase_iff (i : Fin 8) : (∀ k ∈ p.jobs.erase j, k.plan ≠ i) ↔
    (∀ k ∈ gone, k.plan ≠ i) ∧ ∀ k ∈ p.jobs, k.plan = i → k.tick < oldest := by
  rw [← expired_iff_erase hgone i, ← gone_tail hgone]
  simp only [List.mem_filter, decide_eq_true_eq]
  exact ⟨fun h => ⟨fun k hk => h k hk.1, fun k hk hi => absurd hi (h k hk)⟩, fun h k hk hi => h.1 k ⟨hk, h.2 k hk hi⟩ hi⟩

/-- All that the expiry of the first job gone does (R63, R30). -/
theorem expireOne_eq : expireOne p j = postReports
    (.jobExpired j.plan j.tick .history ::
      if DrainsByHistory p oldest j.plan ∧ ∀ k ∈ gone, k.plan ≠ j.plan then [.planState j.plan .done none 0] else [])
    { p with
      jobs := p.jobs.erase j
      plans := p.plans.set j.plan.val { p.plans[j.plan] with
        counters := { p.plans[j.plan].counters with expired := count16 p.plans[j.plan].counters.expired }
        state := if DrainsByHistory p oldest j.plan ∧ ∀ k ∈ gone, k.plan ≠ j.plan then .done else p.plans[j.plan].state } } := by
  have hplan : (expireJob .history j p).plans[j.plan] = { p.plans[j.plan] with
      counters := { p.plans[j.plan].counters with expired := count16 p.plans[j.plan].counters.expired } } := by
    rw [expireJob, postReport_plans, modifyPlan_get_self]
  have hbusy : planBusy (expireJob .history j p) j.plan = false ↔
      p.plans[j.plan].openRecord = none ∧ ∀ k ∈ p.jobs.erase j, k.plan ≠ j.plan := by
    rw [← Bool.not_eq_true, planBusy_iff, hplan, expireJob, postReport_jobs, modifyPlan_jobs]
    simp
  have hdone : (expireJob .history j p).plans[j.plan].state = .draining ∧ planBusy (expireJob .history j p) j.plan = false ↔
      DrainsByHistory p oldest j.plan ∧ ∀ k ∈ gone, k.plan ≠ j.plan := by
    rw [hbusy, no_job_erase_iff hgone, hplan]
    unfold DrainsByHistory
    tauto
  unfold expireOne planDoneIfIdle
  simp only [hdone]
  split
  · rw [expireJob, modifyPlan_postReport, modifyPlan_modifyPlan]
    rfl
  · rfl

theorem expireOne_frame : expireOne p j = { p with
    jobs := p.jobs.erase j, plans := (expireOne p j).plans, lnk := (expireOne p j).lnk } := by
  rw [expireOne_eq hgone, postReports_frame]

theorem expireOne_plan (i : Fin 8) : (expireOne p j).plans[i] = if j.plan = i then
    { p.plans[i] with
      counters := { p.plans[i].counters with expired := count16 p.plans[i].counters.expired }
      state := if DrainsByHistory p oldest i ∧ ∀ k ∈ gone, k.plan ≠ i then .done else p.plans[i].state }
    else p.plans[i] := by
  rw [expireOne_eq hgone, postReports_frame]
  by_cases hi : j.plan = i
  · subst hi
    rw [if_pos rfl]
    exact Vector.getElem_set_self _
  · rw [if_neg hi]
    exact Vector.getElem_set_ne j.plan.isLt i.isLt (fun e => hi (Fin.ext e))

/-- A plan with a job still to expire drains after the first expiry if it drained before: its state waits for its last job. -/
theorem drainsByHistory_expireOne {i : Fin 8} (hmore : j.plan = i → ∃ k ∈ gone, k.plan = i) :
    DrainsByHistory (expireOne p j) oldest i ↔ DrainsByHistory p oldest i := by
  have hjobs : (expireOne p j).jobs = p.jobs.erase j := by rw [expireOne_frame hgone]
  have hkept : (expireOne p j).plans[i].state = p.plans[i].state ∧ (expireOne p j).plans[i].openRecord = p.plans[i].openRecord := by
    rw [expireOne_plan hgone]
    split
    · rename_i hi
      obtain ⟨k, hk, hki⟩ := hmore hi
      exact ⟨if_neg (fun h => h.2 k hk hki), rfl⟩
    · exact ⟨rfl, rfl⟩
  unfold DrainsByHistory
  rw [hjobs, hkept.1, hkept.2, expired_iff_erase hgone]

end OneJob

/-! ### The expiry of all jobs that have left history -/

/-- Whether a plan drains decides its report, and nothing else of the part does. -/
theorem expiryReports_congr {p q : Part} {oldest : Nat} : ∀ {gone : List Job},
    (∀ k ∈ gone, DrainsByHistory q oldest k.plan ↔ DrainsByHistory p oldest k.plan) →
    expiryReports q oldest gone = expiryReports p oldest gone
  | [], _ => rfl
  | j :: gone, h => by
    rw [expiryReports_cons, expiryReports_cons, expiryReports_congr (fun k hk => h k (List.mem_cons_of_mem j hk))]
    simp only [h j List.mem_cons_self]

/-- A plan after the expiry of the jobs `gone` (R63, R30, R35). -/
def planAfterExpiry (p : Part) (oldest : Nat) (gone : List Job) (i : Fin 8) : Plan :=
  let k := (gone.filter (fun j => j.plan == i)).length
  let pl := p.plans[i]
  if k = 0 then pl else { pl with
    state := if DrainsByHistory p oldest i then .done else pl.state
    counters := { pl.counters with expired := min (pl.counters.expired + k) 65535 } }

/-- The number of a plan's jobs in a list is 0 exactly if the list holds none. -/
theorem plan_jobs_eq_zero {gone : List Job} {i : Fin 8} : (gone.filter (fun j => j.plan == i)).length = 0 ↔ ∀ k ∈ gone, k.plan ≠ i := by
  simp

/-- The expiry of the first job, then of the others, is the expiry of all. -/
theorem planAfterExpiry_cons {p : Part} {oldest : Nat} {j : Job} {gone : List Job}
    (hgone : p.jobs.filter (fun k => decide (k.tick < oldest)) = j :: gone) (i : Fin 8) :
    planAfterExpiry (expireOne p j) oldest gone i = planAfterExpiry p oldest (j :: gone) i := by
  have hplan := expireOne_plan hgone i
  by_cases hi : j.plan = i
  · have hcount : ((j :: gone).filter (fun k => k.plan == i)).length = (gone.filter (fun k => k.plan == i)).length + 1 := by simp [hi]
    rw [if_pos hi] at hplan
    unfold planAfterExpiry
    simp only [hcount, Nat.succ_ne_zero, if_false]
    by_cases hnone : (gone.filter (fun k => k.plan == i)).length = 0
    · rw [if_pos hnone, hplan, hnone]
      simp only [iff_true_intro (plan_jobs_eq_zero.1 hnone), and_true]
      rfl
    · have hmore : ∃ k ∈ gone, k.plan = i := by
        by_contra hno
        exact hnone (plan_jobs_eq_zero.2 (fun k hk hki => hno ⟨k, hk, hki⟩))
      have hwaits : ¬ (DrainsByHistory p oldest i ∧ ∀ k ∈ gone, k.plan ≠ i) := fun h => hnone (plan_jobs_eq_zero.2 h.2)
      simp only [if_neg hnone, drainsByHistory_expireOne hgone (fun _ => hmore), hplan, if_neg hwaits, count16, satInc, Config.counterMax]
      congr 2
      omega
  · have hcount : (j :: gone).filter (fun k => k.plan == i) = gone.filter (fun k => k.plan == i) := by simp [hi]
    rw [if_neg hi] at hplan
    unfold planAfterExpiry
    simp only [hcount, hplan, drainsByHistory_expireOne hgone (fun h => absurd h hi)]

/-- What the expiry of the jobs `gone` leaves of the part `p` in the part `t` (R63). -/
structure ExpiredFrom (p : Part) (oldest : Nat) (gone : List Job) (t : Part) : Prop where
  jobs : t.jobs = p.jobs.filter (fun k => decide (oldest ≤ k.tick))
  plans : ∀ i : Fin 8, t.plans[i] = planAfterExpiry p oldest gone i
  reports : t.lnk = (postReports (expiryReports p oldest gone) p).lnk
  rest : t = { p with jobs := t.jobs, plans := t.plans, lnk := t.lnk }

theorem expiredFrom_foldl {oldest : Nat} : ∀ {gone : List Job} {p : Part}, p.jobs.filter (fun k => decide (k.tick < oldest)) = gone →
    ExpiredFrom p oldest gone (gone.foldl expireOne p)
  | [], p, hgone => by
    refine ⟨(List.filter_eq_self.2 (fun k hk => ?_)).symm, fun i => rfl, rfl, rfl⟩
    simpa using List.filter_eq_nil_iff.1 hgone k hk
  | j :: gone, p, hgone => by
    have hframe := expireOne_frame hgone
    have htail : (expireOne p j).jobs.filter (fun k => decide (k.tick < oldest)) = gone := by
      rw [hframe]
      exact gone_tail hgone
    obtain ⟨hjobs, hplans, hreports, hrest⟩ := expiredFrom_foldl htail
    rw [List.foldl_cons]
    refine ⟨?_, fun i => (hplans i).trans (planAfterExpiry_cons hgone i), ?_, ?_⟩
    · rw [hjobs, hframe]
      exact held_erase hgone
    · have hsame : expiryReports (expireOne p j) oldest gone = expiryReports p oldest gone :=
        expiryReports_congr (fun k hk => drainsByHistory_expireOne hgone (fun _ => ⟨k, hk, rfl⟩))
      rw [hreports, hsame, expiryReports_cons, postReports_append]
      refine postReports_lnk_congr _ ?_
      rw [expireOne_eq hgone]
      exact postReports_lnk_congr _ rfl
    · rw [hrest, hframe]

/-! ### JOB_EXPIRY -/

theorem expireByHistory_nil {p : Part} (h : expiredJobs p = []) : expireByHistory p = p := by
  unfold expireByHistory
  rw [h]

theorem expireByHistory_cons {p : Part} (h : expiredJobs p ≠ []) :
    expireByHistory p = reexamine ((expiredJobs p).foldl expireOne p) := by
  unfold expireByHistory
  split
  · contradiction
  · rename_i j js hjobs
    rw [hjobs]
    rfl

/-- Settles O28: job by job, the queue, the plan and the reports come to what the expiry of all the jobs at once is said to leave. -/
theorem jobExpiryRemovesJobsThatLeftHistory : Obligations.JobExpiryRemovesJobsThatLeftHistory := by
  intro s p hp
  have hexec : exec .jobExpiry s = .next (s.withPart (expireByHistory p)) := (onEvent_eq expireByHistory s).trans (by rw [hp])
  refine ⟨fun hnone => ?_, fun newest hnewest => ?_⟩
  · rw [hexec, expireByHistory_nil]
    simp only [expiredJobs, oldestRetained, hnone, Option.map_none]
  · intro oldest gone
    have hexpired : expiredJobs p = gone := by
      simp only [expiredJobs, oldestRetained, hnewest, Option.map_some]
      rfl
    refine ⟨fun hgone => ?_, fun hgone => ?_⟩
    · rw [hexec, expireByHistory_nil (hexpired.trans hgone)]
    · obtain ⟨hjobs, hplans, hreports, hrest⟩ := expiredFrom_foldl (rfl : p.jobs.filter (fun k => decide (k.tick < oldest)) = gone)
      refine ⟨gone.foldl expireOne p, ?_, hjobs, hplans, hreports, hrest⟩
      rw [hexec, expireByHistory_cons (hexpired ▸ hgone), hexpired]

end Sys2Proof.Machine
end

section
/-!
SUPPORT. The range segments of a channel at an open (R69, R142): adding segments one by one keeps the last of those that begin at one frame; and
the statement about them.
-/

namespace Sys2Proof.Machine

/-! ### The last segment of each frame -/

/-- Of neighbouring segments that begin at the same frame, the last. -/
def lastOfFrames : List Segment → List Segment
  | [] => []
  | [s] => [s]
  | s :: t :: rest => if s.frame = t.frame then lastOfFrames (t :: rest) else s :: lastOfFrames (t :: rest)

/-- Segments added one by one to a list that ends in `s` (R69). -/
theorem foldl_addSegment : ∀ (new before : List Segment) (s : Segment),
    new.foldl addSegment (before ++ [s]) = before ++ lastOfFrames (s :: new)
  | [], _, _ => rfl
  | t :: new, before, s => by
    have hadd : addSegment (before ++ [s]) t = if s.frame = t.frame then before ++ [t] else before ++ [s] ++ [t] := by
      simp [addSegment]
    rw [List.foldl_cons, hadd, lastOfFrames]
    split
    · exact foldl_addSegment new before t
    · rw [foldl_addSegment new (before ++ [s]) t, List.append_assoc, List.singleton_append]

/-- A segment before all others stays in front. -/
theorem lastOfFrames_cons_of_lt {s : Segment} : ∀ {segs : List Segment}, (∀ g ∈ segs, s.frame < g.frame) →
    lastOfFrames (s :: segs) = s :: lastOfFrames segs
  | [], _ => rfl
  | t :: _, h => by
    have hne : s.frame ≠ t.frame := Nat.ne_of_lt (h t List.mem_cons_self)
    rw [lastOfFrames, if_neg hne]

theorem lastOfFrames_sublist : ∀ segs : List Segment, (lastOfFrames segs).Sublist segs
  | [] => .slnil
  | [s] => .refl _
  | s :: t :: rest => by
    have ih := lastOfFrames_sublist (t :: rest)
    rw [lastOfFrames]
    split
    · exact ih.cons s
    · exact ih.cons_cons s

/-- Segments whose frames do not fall: the last ones of each frame rise strictly. -/
theorem lastOfFrames_pairwise : ∀ {segs : List Segment}, segs.Pairwise (fun a b => a.frame ≤ b.frame) →
    (lastOfFrames segs).Pairwise (fun a b => a.frame < b.frame)
  | [], _ => .nil
  | [s], _ => List.pairwise_singleton _ s
  | s :: t :: rest, h => by
    obtain ⟨hs, hrest⟩ := List.pairwise_cons.1 h
    have ih := lastOfFrames_pairwise hrest
    rw [lastOfFrames]
    split
    · exact ih
    · rename_i hne
      refine List.pairwise_cons.2 ⟨fun g hg => ?_, ih⟩
      have hst : s.frame < t.frame := Nat.lt_of_le_of_ne (hs t List.mem_cons_self) hne
      rcases List.mem_cons.1 ((lastOfFrames_sublist (t :: rest)).subset hg) with rfl | hg
      · exact hst
      · exact hst.trans_le ((List.pairwise_cons.1 hrest).1 g hg)

/-- Segments whose frames do not fall: the last ones of each frame are those behind which no other begins at their frame. -/
theorem mem_lastOfFrames {g : Segment} : ∀ {segs : List Segment}, segs.Pairwise (fun a b => a.frame ≤ b.frame) →
    (g ∈ lastOfFrames segs ↔ ∃ before after, segs = before ++ g :: after ∧ ∀ y ∈ after, y.frame ≠ g.frame)
  | [], _ => by simp [lastOfFrames]
  | s :: segs, h => by
    obtain ⟨hs, hsegs⟩ := List.pairwise_cons.1 h
    have hsplit : (∃ before after, s :: segs = before ++ g :: after ∧ ∀ y ∈ after, y.frame ≠ g.frame) ↔
        (g = s ∧ ∀ y ∈ segs, y.frame ≠ g.frame) ∨ g ∈ lastOfFrames segs := by
      rw [mem_lastOfFrames hsegs]
      constructor
      · rintro ⟨_ | ⟨a, before⟩, after, hcut, hafter⟩
        · obtain ⟨rfl, rfl⟩ := List.cons.inj hcut
          exact .inl ⟨rfl, hafter⟩
        · exact .inr ⟨before, after, (List.cons.inj hcut).2, hafter⟩
      · rintro (⟨rfl, hafter⟩ | ⟨before, after, rfl, hafter⟩)
        · exact ⟨[], segs, rfl, hafter⟩
        · exact ⟨s :: before, after, rfl, hafter⟩
    rw [hsplit]
    cases segs with
    | nil => simp [lastOfFrames]
    | cons t rest =>
      rw [lastOfFrames]
      split
      · rename_i heq
        exact ⟨.inr, fun hg => hg.resolve_left (fun ⟨hgs, hno⟩ => hno t List.mem_cons_self (hgs ▸ heq.symm))⟩
      · rename_i hne
        have hst : s.frame < t.frame := Nat.lt_of_le_of_ne (hs t List.mem_cons_self) hne
        have hall : ∀ y ∈ t :: rest, y.frame ≠ s.frame := by
          intro y hy
          rcases List.mem_cons.1 hy with rfl | hy
          · exact hst.ne'
          · exact (hst.trans_le ((List.pairwise_cons.1 hsegs).1 y hy)).ne'
        rw [List.mem_cons]
        exact or_congr_left ⟨fun hgs => ⟨hgs, hgs ▸ hall⟩, And.left⟩

/-! ### The segments of a channel -/

/-- The frame at which the range of a log entry begins to hold: the first at or after its tick (R69). -/
def entryFrame (first d : Nat) (e : LogEntry) : Nat :=
  (e.tick - first + (d - 1)) / d

/-- The segment of a log entry. -/
def entrySegment (first d : Nat) (e : LogEntry) : Segment :=
  { frame := entryFrame first d e, range := some e.range }

/-- The segment that a log entry adds, if it is later than the first tick and the window has its frame. -/
def addedSegment (first d frames : Nat) (e : LogEntry) : Option Segment :=
  if first < e.tick ∧ entryFrame first d e < frames then some (entrySegment first d e) else none

theorem laterSegments_eq (first d frames : Nat) (log : List LogEntry) :
    laterSegments first d frames log = log.filterMap (addedSegment first d frames) := by
  unfold laterSegments
  rw [List.filterMap_filter]
  congr 1
  funext e
  by_cases h : first < e.tick <;> simp [addedSegment, entrySegment, entryFrame, h]

theorem addedSegment_eq_some {first d frames : Nat} {e : LogEntry} {g : Segment} : addedSegment first d frames e = some g ↔
    first < e.tick ∧ entryFrame first d e < frames ∧ g = entrySegment first d e := by
  unfold addedSegment
  split
  · rename_i h
    simp [h, eq_comm]
  · rename_i h
    simp only [reduceCtorEq, false_iff]
    exact fun h' => h ⟨h'.1, h'.2.1⟩

/-- An entry later than the window's first tick begins to hold after frame 0. -/
theorem entryFrame_pos {first d : Nat} (hd : 0 < d) {e : LogEntry} (h : first < e.tick) : 0 < entryFrame first d e :=
  Nat.div_pos (by omega) hd

theorem entryFrame_mono (first d : Nat) {a b : LogEntry} (h : a.tick ≤ b.tick) : entryFrame first d a ≤ entryFrame first d b :=
  Nat.div_le_div_right (by omega)

theorem laterSegments_pos {first d frames : Nat} (hd : 0 < d) {log : List LogEntry} {g : Segment}
    (h : g ∈ laterSegments first d frames log) : 0 < g.frame := by
  rw [laterSegments_eq] at h
  obtain ⟨e, -, he⟩ := List.mem_filterMap.1 h
  obtain ⟨hfirst, -, rfl⟩ := addedSegment_eq_some.1 he
  exact entryFrame_pos hd hfirst

/-- A channel's segments: that of the first tick, then the last of each frame that the later entries add (R69). -/
theorem channelSegments_eq (c : Channel) {first d frames : Nat} (hd : 0 < d) : channelSegments c first d frames =
    { frame := 0, range := rangeAt c first } :: lastOfFrames (laterSegments first d frames c.log) := by
  have h := foldl_addSegment (laterSegments first d frames c.log) [] { frame := 0, range := rangeAt c first }
  rw [List.nil_append, List.nil_append, lastOfFrames_cons_of_lt (fun g hg => laterSegments_pos hd hg)] at h
  exact h

/-- The segments that a log with rising ticks adds begin at frames that do not fall. -/
theorem laterSegments_pairwise (first d frames : Nat) {log : List LogEntry} (hlog : log.Pairwise (fun a b => a.tick < b.tick)) :
    (laterSegments first d frames log).Pairwise (fun a b => a.frame ≤ b.frame) := by
  rw [laterSegments_eq, List.pairwise_filterMap]
  refine hlog.imp (fun {a b} hab g hg g' hg' => ?_)
  obtain ⟨-, -, rfl⟩ := addedSegment_eq_some.1 hg
  obtain ⟨-, -, rfl⟩ := addedSegment_eq_some.1 hg'
  exact entryFrame_mono first d hab.le

/-- Where an added segment stands among the added ones, its entry stands in the log; the log's later entries begin at other frames exactly if the
segments behind it do. -/
theorem laterSegments_split {first d frames : Nat} {log : List LogEntry} (hlog : log.Pairwise (fun a b => a.tick < b.tick)) (g : Segment) :
    (∃ before after, laterSegments first d frames log = before ++ g :: after ∧ ∀ y ∈ after, y.frame ≠ g.frame) ↔
    ∃ (older : List LogEntry) (e : LogEntry) (younger : List LogEntry), log = older ++ e :: younger ∧ first < e.tick ∧
      entryFrame first d e < frames ∧ (∀ y ∈ younger, entryFrame first d y ≠ entryFrame first d e) ∧ g = entrySegment first d e := by
  rw [laterSegments_eq]
  constructor
  · rintro ⟨before, after, hcut, hafter⟩
    obtain ⟨older, rest, rfl, -, hrest⟩ := List.filterMap_eq_append_iff.1 hcut
    obtain ⟨skipped, e, younger, rfl, -, he, rfl⟩ := List.filterMap_eq_cons_iff.1 hrest
    obtain ⟨hfirst, hframe, rfl⟩ := addedSegment_eq_some.1 he
    refine ⟨older ++ skipped, e, younger, by simp, hfirst, hframe, fun y hy heq => ?_, rfl⟩
    have hlater : e.tick < y.tick :=
      (List.pairwise_cons.1 (List.pairwise_append.1 (List.pairwise_append.1 hlog).2.1).2.1).1 y hy
    have hadded : addedSegment first d frames y = some (entrySegment first d y) :=
      addedSegment_eq_some.2 ⟨hfirst.trans hlater, heq ▸ hframe, rfl⟩
    exact hafter (entrySegment first d y) (List.mem_filterMap.2 ⟨y, hy, hadded⟩) heq
  · rintro ⟨older, e, younger, rfl, hfirst, hframe, hyounger, rfl⟩
    have hadded : addedSegment first d frames e = some (entrySegment first d e) := addedSegment_eq_some.2 ⟨hfirst, hframe, rfl⟩
    refine ⟨_, _, by rw [List.filterMap_append, List.filterMap_cons_some hadded], fun y hy => ?_⟩
    obtain ⟨z, hz, hzy⟩ := List.mem_filterMap.1 hy
    obtain ⟨-, -, rfl⟩ := addedSegment_eq_some.1 hzy
    exact hyounger z hz

/-! ### The range in effect at a tick (R142) -/

/-- Of entries up to a tick and later ones, the last of the former is in effect. -/
theorem rangeAt_of_entry {c : Channel} {t : Nat} {older younger : List LogEntry} {e : LogEntry} (hlog : c.log = older ++ e :: younger)
    (he : e.tick ≤ t) (hyounger : ∀ y ∈ younger, t < y.tick) : rangeAt c t = some e.range := by
  have hnone : younger.filter (fun y => decide (y.tick ≤ t)) = [] :=
    List.filter_eq_nil_iff.2 (fun y hy => by simpa using hyounger y hy)
  unfold rangeAt
  rw [hlog, List.filter_append, List.filter_cons_of_pos (by simpa using he), hnone]
  simp

/-- Before the first entry of the log the base range is in effect from the base tick on. -/
theorem rangeAt_of_base {c : Channel} {t : Nat} (h : ∀ e ∈ c.log, t < e.tick) :
    rangeAt c t = if c.baseTick ≤ t then some c.baseRange else none := by
  have hnone : c.log.filter (fun e => decide (e.tick ≤ t)) = [] := List.filter_eq_nil_iff.2 (fun e he => by simpa using h e he)
  unfold rangeAt
  rw [hnone]
  rfl

/-- Settles O30: the segments are the first tick's and the last of each frame that the later entries add. -/
theorem segmentsFollowTheRangeLog : Obligations.SegmentsFollowTheRangeLog := by
  refine ⟨fun c first d frames hd hlog => ?_, fun c t => ⟨fun _ _ _ => rangeAt_of_entry, rangeAt_of_base⟩⟩
  intro segments frame
  have hrising := laterSegments_pairwise first d frames hlog
  have hsegments : segments = _ := channelSegments_eq c hd
  rw [hsegments]
  refine ⟨rfl, List.pairwise_cons.2 ⟨fun g hg => ?_, lastOfFrames_pairwise hrising⟩, fun g => ?_⟩
  · exact laterSegments_pos hd ((lastOfFrames_sublist _).subset hg)
  · rw [List.tail_cons, mem_lastOfFrames hrising]
    exact laterSegments_split hlog g

end Sys2Proof.Machine
end

section
/-!
SUPPORT. A re-examination of the Pending Job Queue (R61, R62): what opens next, what the open leaves, that the rounds do not run out; and the
statement about one round.
-/

namespace Sys2Proof.Machine

/-! ### The record ID that an open takes (R11) -/

/-- The search has advanced past IDs of live records alone. -/
theorem freeIdFrom_iterate (live : List Nat) : ∀ (fuel n : Nat),
    ∃ m, freeIdFrom live fuel n = advanceId^[m] n ∧ ∀ i < m, advanceId^[i] n ∈ live
  | 0, _ => ⟨0, rfl, nofun⟩
  | fuel + 1, n => by
    unfold freeIdFrom
    split
    · rename_i hn
      obtain ⟨m, hm, hlive⟩ := freeIdFrom_iterate live fuel (advanceId n)
      refine ⟨m + 1, hm, fun i hi => ?_⟩
      cases i with
      | zero => simpa using hn
      | succ i => exact hlive i (Nat.lt_of_succ_lt_succ hi)
    · exact ⟨0, rfl, nofun⟩

theorem nextRecordId_eq {p : Part} {id : Nat} (hids : RecordIdsSound p) (h : TakesId p id) : nextRecordId p = id := by
  obtain ⟨-, -, hlength, hnext⟩ := hids
  obtain ⟨k, rfl, hfree, hbefore⟩ := h
  have hfresh := freeIdFrom_fresh (live := p.records.map (fun r => r.id)) hnext (by rw [List.length_map]; omega)
  rw [List.length_map] at hfresh
  obtain ⟨m, hm, hlive⟩ := freeIdFrom_iterate (p.records.map (fun r => r.id)) (p.records.length + 1) p.nextId
  simp only [advanceId_iterate hnext] at hm hlive
  rw [hm] at hfresh
  have hmk : m = k := by
    rcases Nat.lt_trichotomy m k with hlt | heq | hlt
    · exact absurd (List.mem_map.2 (hbefore m hlt)) hfresh
    · exact heq
    · obtain ⟨r, hr, hid⟩ := List.mem_map.1 (hlive k hlt)
      exact absurd hid (hfree r hr)
  rw [nextRecordId, hm, hmk]

/-- The counter after the ID (R11). -/
theorem advanceId_eq {id : Nat} (h : 1 ≤ id ∧ id ≤ 65535) : advanceId id = id % 65535 + 1 := by
  unfold advanceId Config.maxRecordId
  split <;> omega

/-! ### What opens next (R62, R66) -/

/-- The lowest slot that satisfies a condition. -/
theorem find_allSlots {q : Fin 4 → Bool} {w : Fin 4} :
    allSlots.find? q = some w ↔ q w = true ∧ ∀ v : Fin 4, v < w → q v = false := by
  have hsorted : allSlots.Pairwise (fun a b => a < b) := by decide
  rw [List.find?_eq_some_iff_append]
  constructor
  · rintro ⟨hw, before, after, hsplit, hbefore⟩
    refine ⟨hw, fun v hv => ?_⟩
    have hmem := mem_allSlots v
    rw [hsplit] at hmem hsorted
    rcases List.mem_append.1 hmem with hin | hin
    · simpa using hbefore v hin
    · rcases List.mem_cons.1 hin with rfl | hin
      · exact absurd hv (lt_irrefl v)
      · exact absurd hv ((List.pairwise_cons.1 (List.pairwise_append.1 hsorted).2.1).1 v hin).not_gt
  · rintro ⟨hw, hbefore⟩
    obtain ⟨before, after, hsplit⟩ := List.append_of_mem (mem_allSlots w)
    rw [hsplit] at hsorted
    refine ⟨hw, before, after, hsplit, fun v hv => ?_⟩
    rw [hbefore v ((List.pairwise_append.1 hsorted).2.2 v hv w List.mem_cons_self), Bool.not_false]

theorem freeSlot_eq_some {p : Part} {w : Fin 4} :
    freeSlot p = some w ↔ p.slots[w] = none ∧ ∀ v : Fin 4, v < w → p.slots[v].isSome = true := by
  simp [freeSlot, find_allSlots]

/-- A job is ready if its plan has no OPEN record and history holds its tick (R60, R62). -/
theorem jobReady_iff {p : Part} {newest : Nat} (h : p.smp.newest = some newest) (j : Job) :
    jobReady p j = true ↔ p.plans[j.plan].openRecord = none ∧ newest - 16383 ≤ j.tick ∧ j.tick ≤ newest := by
  simp [jobReady, heldInHistory, h, oldestFor, Config.historyDepth]

theorem not_jobReady_iff {p : Part} {newest : Nat} (h : p.smp.newest = some newest) (j : Job) :
    jobReady p j = false ↔ p.plans[j.plan].openRecord ≠ none ∨ j.tick < newest - 16383 ∨ newest < j.tick := by
  rw [← Bool.not_eq_true, jobReady_iff h, not_and_or, not_and_or, Nat.not_le, Nat.not_le]

/-- The actual pre length is the largest multiple of d that neither the plan's pre length nor history cuts short (R66). -/
theorem actualPre_eq_iff {d pre t oldest m : Nat} : actualPre d pre t oldest = m ↔
    m % d = 0 ∧ (m ≤ pre ∧ m ≤ t - oldest) ∧ ∀ n : Nat, n % d = 0 → n ≤ pre → n ≤ t - oldest → n ≤ m := by
  have hlargest : ∀ n : Nat, n % d = 0 → n ≤ pre → n ≤ t - oldest → n ≤ actualPre d pre t oldest := by
    intro n hn hpre holdest
    rw [← Nat.div_mul_cancel (Nat.dvd_of_mod_eq_zero hn)]
    exact Nat.mul_le_mul_right d (Nat.div_le_div_right (Nat.le_min.2 ⟨hpre, holdest⟩))
  have hwithin : actualPre d pre t oldest ≤ pre ∧ actualPre d pre t oldest ≤ t - oldest :=
    Nat.le_min.1 (Nat.div_mul_le_self _ d)
  have haligned : actualPre d pre t oldest % d = 0 := Nat.mul_mod_left _ d
  constructor
  · rintro rfl
    exact ⟨haligned, hwithin, hlargest⟩
  · rintro ⟨hm, ⟨hpre, holdest⟩, hmax⟩
    exact Nat.le_antisymm (hmax _ haligned hwithin.1 hwithin.2) (hlargest m hm hpre holdest)

/-- The blocks that an open reserves (R2, R4, R67). -/
def openBlocks (d : PlanDef) (pre : Nat) : Nat :=
  ((channelList d.channels).length * ((pre + d.post) / d.decimation) + 255) / 256

/-- What opens next is what OpensNext says. -/
theorem nextOpen_eq_some {p : Part} {w : Fin 4} {j : Job} {d : PlanDef} {pre blocks : Nat} :
    nextOpen p = some (w, j, d, pre, blocks) ↔
      blocks = openBlocks d pre ∧ ∃ older younger newest, OpensNext p w older j younger d pre newest := by
  constructor
  · intro hopen
    unfold nextOpen at hopen
    split at hopen
    · rename_i v k oldest hslot hjob holdest
      obtain ⟨newest, hnewest, rfl⟩ := Option.map_eq_some_iff.1 holdest
      obtain ⟨hready, older, younger, hqueue, holder⟩ := List.find?_eq_some_iff_append.1 hjob
      split at hopen
      · rename_i e hdefinition
        dsimp only at hopen
        split at hopen
        · rename_i hfits
          cases hopen
          obtain ⟨haligned, hretained, hlargest⟩ := actualPre_eq_iff.1 (rfl : actualPre d.decimation d.pre j.tick (oldestFor newest) = _)
          exact ⟨rfl, older, younger, newest,
            { freeSlot := freeSlot_eq_some.1 hslot, sampled := hnewest, queue := hqueue
              notReady := fun x hx => (not_jobReady_iff hnewest x).1 (by simpa using holder x hx)
              ready := (jobReady_iff hnewest j).1 hready, definition := hdefinition, aligned := haligned, retained := hretained
              largest := hlargest, recordSlot := hfits.1, memory := hfits.2 }⟩
        · cases hopen
      · cases hopen
    · cases hopen
  · rintro ⟨rfl, older, younger, newest, h⟩
    have hslot : freeSlot p = some w := freeSlot_eq_some.2 h.freeSlot
    have hjob : p.jobs.find? (jobReady p) = some j := List.find?_eq_some_iff_append.2
      ⟨(jobReady_iff h.sampled j).2 h.ready, older, younger, h.queue, fun x hx => by
        simpa using (not_jobReady_iff h.sampled x).2 (h.notReady x hx)⟩
    have holdest : oldestRetained p = some (newest - 16383) := by
      rw [oldestRetained, h.sampled]
      rfl
    have hpre : actualPre d.decimation d.pre j.tick (newest - 16383) = pre := actualPre_eq_iff.2 ⟨h.aligned, h.retained, h.largest⟩
    unfold nextOpen
    rw [hslot, hjob, holdest]
    simp only [h.definition, hpre]
    exact if_pos ⟨h.recordSlot, h.memory⟩

/-! ### The part that an open leaves (R67) -/

/-- The locks of the channels of a set raised by 1 (R68). -/
theorem raiseLocks_channels (set : ChannelSet) (p : Part) : (raiseLocks set p).channels = Vector.ofFn (fun c : Fin 8 =>
    { p.channels[c] with lockCount := p.channels[c].lockCount + (if set.getLsbD c.val then 1 else 0) }) := by
  refine Vector.ext fun c hc => ?_
  have hentry := foldl_entries (get := fun p c => p.channels[c])
    (f := fun p c => modifyChannel c (fun ch => { ch with lockCount := ch.lockCount + 1 }) p)
    (g := fun _ ch => { ch with lockCount := ch.lockCount + 1 }) (fun q a k => by
      by_cases h : a = k
      · subst h
        rw [if_pos rfl, modifyChannel_get_self]
      · rw [if_neg h, modifyChannel_get_other h]) (channelList_nodup set) p ⟨c, hc⟩
  refine hentry.trans ?_
  simp only [mem_channelList, Vector.getElem_ofFn]
  split <;> rfl

/-- No range is known at a tick before the log and before the base tick (R142). -/
theorem rangeAt_isNone (c : Channel) (t : Nat) :
    (rangeAt c t).isNone = (c.log.all (fun e => decide (t < e.tick)) && decide (t < c.baseTick)) := by
  cases hall : c.log.all (fun e => decide (t < e.tick)) with
  | true =>
    rw [rangeAt_of_base (by simpa using hall)]
    by_cases hbase : c.baseTick ≤ t
    · simp [hbase]
    · simp [hbase, Nat.lt_of_not_le hbase]
  | false =>
    obtain ⟨e, he, htick⟩ : ∃ e ∈ c.log, e.tick ≤ t := by simpa using hall
    have hmem : e ∈ c.log.filter (fun e => decide (e.tick ≤ t)) := List.mem_filter.2 ⟨he, by simpa using htick⟩
    unfold rangeAt
    rw [List.getLast?_eq_some_getLast (List.ne_nil_of_mem hmem)]
    rfl

/-- The flags at an open: RANGE_UNKNOWN where a channel's first tick has no known range (R10). -/
theorem openFlags_eq (pre preStored : Nat) (channels : Fin 8 → Channel) (set : ChannelSet) (first frames : Nat) {d : Nat} (hd : 0 < d) :
    openFlags pre preStored ((channelList set).map (fun c => channelSegments (channels c) first d frames)) =
      { shortPre := decide (preStored < pre), truncated := false, clipped := false
        rangeUnknown := (channelList set).any (fun c =>
          (channels c).log.all (fun e => decide (first < e.tick)) && decide (first < (channels c).baseTick))
        replayed := false } := by
  unfold openFlags
  simp only [List.any_map, Function.comp_def, channelSegments_eq _ hd, rangeAt_isNone]

/-- The part that the open of job `j` into slot `w` leaves, the record's ID given (R67). -/
def openedPart (w : Fin 4) (older : List Job) (j : Job) (younger : List Job) (d : PlanDef) (pre id : Nat) (p : Part) : Part :=
  { p with
    jobs := older ++ younger
    freeList := p.freeList.drop (openBlocks d pre)
    nextId := id % 65535 + 1
    records := p.records ++ [
      { id := id, plan := j.plan, lane := d.lane, retain := d.retain, sources := j.sources, tick := j.tick
        preRequested := d.pre, preStored := pre, postRequested := d.post, decimation := d.decimation
        channels := d.channels
        segments := (channelList d.channels).map (fun c =>
          channelSegments p.channels[c] (j.tick - pre) d.decimation ((pre + d.post) / d.decimation))
        state := .opened, postStored := 0, frames := 0, words := 0
        flags := { shortPre := decide (pre < d.pre), truncated := false, clipped := false
                   rangeUnknown := (channelList d.channels).any (fun c =>
                     p.channels[c].log.all (fun e => decide (j.tick - pre < e.tick)) && decide (j.tick - pre < p.channels[c].baseTick))
                   replayed := false }
        chain := p.freeList.take (openBlocks d pre), deliveries := 0 }]
    slots := p.slots.set w.val (some
      { recordId := id, plan := j.plan, tick := j.tick, first := j.tick - pre, last := j.tick + d.post - 1
        decimation := d.decimation, channels := d.channels, copyPos := j.tick - pre, phase := .copying, clipped := false })
    plans := p.plans.set j.plan.val { p.plans[j.plan] with openRecord := some id }
    channels := Vector.ofFn (fun c : Fin 8 => { p.channels[c] with
      lockCount := p.channels[c].lockCount + (if d.channels.getLsbD c.val then 1 else 0) }) }

/-- An open leaves that part. -/
theorem openWindow_eq {p : Part} {w : Fin 4} {older younger : List Job} {j : Job} {d : PlanDef} {pre newest id : Nat}
    (h : OpensNext p w older j younger d pre newest) (hd : 0 < d.decimation) (hids : RecordIdsSound p) (hid : TakesId p id) :
    openWindow w j d pre (openBlocks d pre) p = openedPart w older j younger d pre id p := by
  have hnext : nextRecordId p = id := nextRecordId_eq hids hid
  have hrange : 1 ≤ id ∧ id ≤ 65535 := by
    obtain ⟨-, -, -, hcounter⟩ := hids
    exact hnext ▸ freeIdFrom_range _ _ hcounter
  have hjobs : p.jobs.erase j = older ++ younger := by
    have hj : j ∉ older := fun hj => by
      have hready := (jobReady_iff h.sampled j).2 h.ready
      rw [(not_jobReady_iff h.sampled j).2 (h.notReady j hj)] at hready
      cases hready
    rw [h.queue, List.erase_append_right _ hj, List.erase_cons_head]
  unfold openWindow
  simp only [hnext, hjobs, advanceId_eq hrange, newRecord, newWindow, openFlags_eq _ _ (fun c => p.channels[c]) _ _ _ hd]
  rw [raiseLocks_frame, raiseLocks_channels]
  rfl

/-! ### The rounds of a re-examination (R62) -/

/-- The number of free window slots. -/
def freeSlots (p : Part) : Nat :=
  p.slots.countP (fun x => x.isNone)

/-- An open takes a free slot. -/
theorem freeSlots_openWindow {p : Part} {w : Fin 4} {j : Job} {d : PlanDef} {pre blocks : Nat}
    (h : nextOpen p = some (w, j, d, pre, blocks)) : freeSlots (openWindow w j d pre blocks p) + 1 = freeSlots p := by
  have hfree : p.slots[w.val] = none := (nextOpen_spec h).1
  have hslots : (openWindow w j d pre blocks p).slots = p.slots.set w.val (some (newWindow j d pre (nextRecordId p))) :=
    congrArg Capture.slots (capture_openWindow w j d pre blocks p)
  have hpos : 0 < freeSlots p := Vector.countP_pos_iff.2 ⟨none, hfree ▸ Vector.getElem_mem _, rfl⟩
  unfold freeSlots at hpos ⊢
  rw [hslots, Vector.countP_set]
  simp only [hfree, Option.isNone_none, Option.isNone_some, if_true, Bool.false_eq_true, if_false]
  omega

/-- With no free slot left, nothing opens. -/
theorem nextOpen_of_freeSlots {p : Part} (h : freeSlots p = 0) : nextOpen p = none := by
  refine nextOpen_no_slot (fun w => ?_)
  have hw := Vector.countP_eq_zero.1 h p.slots[w] (Vector.getElem_mem _)
  simpa [Option.isSome_iff_ne_none] using hw

/-- One round more than there are free slots opens nothing more. -/
theorem reexamineFor_succ : ∀ {n : Nat} {p : Part}, freeSlots p ≤ n → reexamineFor (n + 1) p = reexamineFor n p
  | 0, p, h => reexamineFor_none (nextOpen_of_freeSlots (Nat.le_zero.1 h)) _
  | n + 1, p, h => by
    rw [reexamineFor, reexamineFor]
    split
    · rename_i w j d pre blocks hopen
      have hless := freeSlots_openWindow hopen
      exact reexamineFor_succ (by omega)
    · rfl

/-- A re-examination goes on from what its first open leaves (R61, R62). -/
theorem reexamine_opens {p : Part} {w : Fin 4} {j : Job} {d : PlanDef} {pre blocks : Nat} (h : nextOpen p = some (w, j, d, pre, blocks)) :
    reexamine p = reexamine (openWindow w j d pre blocks p) := by
  have hslots : freeSlots p ≤ 4 := Vector.countP_le_size
  have hless := freeSlots_openWindow h
  have hfirst : reexamineFor 4 p = reexamineFor 3 (openWindow w j d pre blocks p) := by rw [reexamineFor, h]
  exact hfirst.trans (reexamineFor_succ (by omega)).symm

/-- Settles O29: what opens next is what OpensNext says, the open leaves the part as stated, and with nothing to open nothing changes. -/
theorem reexaminationOpensTheOldestReadyJob : Obligations.ReexaminationOpensTheOldestReadyJob := by
  refine fun p => ⟨fun w older j younger d pre newest id h hd hids hid => ?_, fun h => ?_⟩
  · rw [reexamine_opens (nextOpen_eq_some.2 ⟨rfl, older, younger, newest, h⟩), openWindow_eq h hd hids hid]
    rfl
  · refine reexamineFor_none (Option.eq_none_iff_forall_ne_some.2 (fun x hx => h ?_)) _
    obtain ⟨w, j, d, pre, blocks⟩ := x
    obtain ⟨-, older, younger, newest, hopens⟩ := nextOpen_eq_some.1 hx
    exact ⟨w, older, j, younger, d, pre, newest, hopens⟩

end Sys2Proof.Machine
end

section
/-!
SUPPORT. A sample frame stored (R3, R10, R71): where its words stand in the blocks, and what of the part it changes; and the catch-up copy (R70),
which stores one frame after another, with its statement.
-/

namespace Sys2Proof.Machine

/-! ### Words in a chain (R3) -/

theorem chainAddr_eq_some {chain : List Nat} {w a : Nat} :
    chainAddr chain w = some a ↔ ∃ b, chain[w / 256]? = some b ∧ a = 2 * (256 * b + w % 256) := by
  unfold chainAddr
  rw [Option.map_eq_some_iff]
  exact exists_congr (fun b => and_congr_right (fun _ => eq_comm))

/-- Words of chains stand at even addresses: two of them are one word, or share no byte. -/
theorem chainAddr_apart {chain chain' : List Nat} {v w a b : Nat} (ha : chainAddr chain v = some a) (hb : chainAddr chain' w = some b) :
    a ≠ b + 1 ∧ a + 1 ≠ b := by
  obtain ⟨_, -, rfl⟩ := chainAddr_eq_some.1 ha
  obtain ⟨_, -, rfl⟩ := chainAddr_eq_some.1 hb
  omega

/-- Chains without a common block share no word. -/
theorem chainAddr_ne_of_disjoint {chain chain' : List Nat} (h : ∀ b ∈ chain, b ∉ chain') {v w a b : Nat}
    (ha : chainAddr chain v = some a) (hb : chainAddr chain' w = some b) : a ≠ b := by
  obtain ⟨c, hc, rfl⟩ := chainAddr_eq_some.1 ha
  obtain ⟨c', hc', rfl⟩ := chainAddr_eq_some.1 hb
  have hne : c ≠ c' := fun e => h c (List.mem_of_getElem? hc) (e ▸ List.mem_of_getElem? hc')
  omega

/-- In a chain without a repeated block every word has an address of its own. -/
theorem chainAddr_inj {chain : List Nat} (hchain : chain.Nodup) {v w a : Nat} (hv : chainAddr chain v = some a)
    (hw : chainAddr chain w = some a) : v = w := by
  obtain ⟨b, hb, rfl⟩ := chainAddr_eq_some.1 hv
  obtain ⟨b', hb', heq⟩ := chainAddr_eq_some.1 hw
  obtain rfl : b = b' := by omega
  obtain ⟨hlt, hget⟩ := List.getElem?_eq_some_iff.1 hb
  obtain ⟨hlt', hget'⟩ := List.getElem?_eq_some_iff.1 hb'
  have hindex := (List.Nodup.getElem_inj_iff hchain).1 (hget.trans hget'.symm)
  omega

/-- A word reads by its two bytes. -/
theorem readWord_congr {m m' : Memory} {a : Nat} (h0 : m'.read a = m.read a) (h1 : m'.read (a + 1) = m.read (a + 1)) :
    m'.readWord a = m.readWord a := by
  rw [Memory.readWord, Memory.readWord, h0, h1]

/-- Words written leave every byte alone that is in none of them (R3). -/
theorem storeWords_read_other (chain : List Nat) {a : Nat} : ∀ (codes : List SampleCode) (w : Nat) {m : Memory}, Memory.wf m →
    (∀ k b : Nat, k < codes.length → chainAddr chain (w + k) = some b → a ≠ b ∧ a ≠ b + 1) →
    (storeWords chain w codes m).read a = m.read a
  | [], _, _, _, _ => rfl
  | code :: codes, w, m, hm, ha => by
    have hrest : ∀ k b : Nat, k < codes.length → chainAddr chain (w + 1 + k) = some b → a ≠ b ∧ a ≠ b + 1 := fun k b hk hb =>
      ha (k + 1) b (Nat.succ_lt_succ hk) (by rwa [Nat.add_comm k 1, ← Nat.add_assoc])
    rw [storeWords]
    split
    · rename_i b hb
      obtain ⟨hne, hne'⟩ := ha 0 b (Nat.succ_pos _) hb
      rw [storeWords_read_other chain codes (w + 1) (Memory.writeWord_wf b code hm) hrest, Memory.read_writeWord_other code hm hne hne']
    · exact storeWords_read_other chain codes (w + 1) hm hrest

/-- Words written into a chain without a repeated block read as written (R3). -/
theorem storeWords_readWord {chain : List Nat} (hchain : chain.Nodup) {c : SampleCode} {a : Nat} : ∀ (codes : List SampleCode) (w k : Nat)
    {m : Memory}, Memory.wf m → codes[k]? = some c → chainAddr chain (w + k) = some a → (storeWords chain w codes m).readWord a = c
  | [], _, _, _, _, hc, _ => by cases hc
  | code :: codes, w, 0, m, hm, hc, ha => by
    have hother : ∀ k b : Nat, k < codes.length → chainAddr chain (w + 1 + k) = some b → a ≠ b := by
      rintro k b - hb rfl
      have hindex := chainAddr_inj hchain ha hb
      omega
    have hwritten := Memory.writeWord_wf a code hm
    obtain rfl : code = c := by simpa using hc
    have ha' : chainAddr chain w = some a := ha
    rw [storeWords, ha']
    have hkept : (storeWords chain (w + 1) codes (Memory.writeWord a code m)).readWord a = (Memory.writeWord a code m).readWord a := by
      refine readWord_congr (storeWords_read_other chain codes (w + 1) hwritten (fun k b hk hb => ?_))
        (storeWords_read_other chain codes (w + 1) hwritten (fun k b hk hb => ?_))
      · exact ⟨hother k b hk hb, (chainAddr_apart ha hb).1⟩
      · exact ⟨(chainAddr_apart ha hb).2, fun e => hother k b hk hb (Nat.succ.inj e)⟩
    exact hkept.trans (Memory.readWord_writeWord a code hm)
  | code :: codes, w, k + 1, m, hm, hc, ha => by
    rw [storeWords]
    refine storeWords_readWord hchain codes (w + 1) k ?_ (by simpa using hc) (by rwa [Nat.add_assoc, Nat.add_comm 1 k])
    split
    · exact Memory.writeWord_wf _ code hm
    · exact hm

/-! ### A frame stored (R10, R71) -/

/-- A frame stored changes its slot, its record and the blocks alone. -/
theorem storeFrame_found {p : Part} {x : Window} {r : Record} (hr : findRecord p x.recordId = some r) (w : Fin 4) (tick : Nat)
    (codes : List SampleCode) : storeFrame w x tick codes p =
      { p with
        slots := p.slots.set w.val (some { x with clipped := x.clipped || codes.any isEndCode })
        records := (modifyRecord x.recordId (recordWithFrame x tick codes) p).records
        blocks := storeWords r.chain r.words codes p.blocks } := by
  unfold storeFrame
  rw [hr]
  rfl

theorem storeFrame_not_found {p : Part} {x : Window} (hr : findRecord p x.recordId = none) (w : Fin 4) (tick : Nat)
    (codes : List SampleCode) : storeFrame w x tick codes p = p := by
  unfold storeFrame
  rw [hr]

section Stored

variable {p : Part} {x : Window} {r : Record} (hr : findRecord p x.recordId = some r) (w : Fin 4) (tick : Nat) (codes : List SampleCode)
include hr

theorem findRecord_storeFrame_self : findRecord (storeFrame w x tick codes p) x.recordId = some (recordWithFrame x tick codes r) := by
  rw [storeFrame_found hr]
  have hfound := findRecord_modifyRecord x.recordId (recordWithFrame x tick codes) (fun _ => rfl) p
  rw [hr] at hfound
  exact hfound

theorem findRecord_storeFrame_other {id : Nat} (hid : id ≠ x.recordId) :
    findRecord (storeFrame w x tick codes p) id = findRecord p id := by
  rw [storeFrame_found hr]
  exact findRecord_modifyRecord_other hid (recordWithFrame x tick codes) (fun _ => rfl) p

theorem storeFrame_slots : (storeFrame w x tick codes p).slots =
    p.slots.set w.val (some { x with clipped := x.clipped || codes.any isEndCode }) := by
  rw [storeFrame_found hr]

theorem storeFrame_blocks : (storeFrame w x tick codes p).blocks = storeWords r.chain r.words codes p.blocks := by
  rw [storeFrame_found hr]

end Stored

/-! ### The catch-up copy (R70) -/

/-- The next aligned tick is the first of the window's aligned ticks from the copy position on. -/
theorem nextAligned_eq {x : Window} {k : Nat} (hd : 0 < x.decimation) (hfrom : x.copyPos ≤ x.first + k * x.decimation)
    (hto : x.first + k * x.decimation < x.copyPos + x.decimation) : nextAligned x = x.first + k * x.decimation := by
  have hcount : (x.copyPos - x.first + (x.decimation - 1)) / x.decimation = k := by
    refine Nat.div_eq_of_lt_le ?_ ?_
    · omega
    · rw [Nat.add_mul]
      omega
  rw [nextAligned, hcount]

/-- It is aligned, and not before the copy position. -/
theorem nextAligned_spec {x : Window} (hd : 0 < x.decimation) : ∃ k, nextAligned x = x.first + k * x.decimation ∧
    x.copyPos ≤ x.first + k * x.decimation := by
  refine ⟨_, rfl, ?_⟩
  have hdiv := Nat.lt_div_mul_add hd (a := x.copyPos - x.first + (x.decimation - 1))
  omega

theorem copyFrame_due {p : Part} {w : Fin 4} {x : Window} {tick : Nat} (hx : p.slots[w] = some x) (hcopying : x.phase = .copying)
    (hdue : copyDue p x = some tick) :
    copyFrame w p = storeFrame w { x with copyPos := tick + 1 } tick (historyFrame p x tick) p := by
  unfold copyFrame
  simp only [hx, if_pos hcopying, hdue]

theorem endCopy_ends {p : Part} {w : Fin 4} {x : Window} {newest : Nat} (hx : p.slots[w] = some x) (hcopying : x.phase = .copying)
    (hnewest : p.smp.newest = some newest) (hdue : copyDue p x = none) :
    endCopy w p = setSlot w (some { x with phase := if x.last ≤ newest then .ended else .live }) p := by
  unfold endCopy
  simp only [hx, hnewest, hcopying, hdue, true_and, if_true]

/-- Settles O26: the copy stores the frame of the next aligned tick, and ends where none is left. -/
theorem catchUpCopyReadsHistoryInOrder : Obligations.CatchUpCopyReadsHistoryInOrder := by
  intro s p w x r newest hp hx hcopying hnewest hr hd hfirst
  refine ⟨fun k tick htick hfrom hto hsampled hlast => ?_, fun hleft => ?_⟩
  · intro set codes
    have hnext : nextAligned x = tick := by
      rw [htick] at hfrom hto ⊢
      exact nextAligned_eq hd hfrom hto
    have hdue : copyDue p x = some tick := by
      unfold copyDue
      rw [hnewest, hnext]
      exact if_pos ⟨hsampled, hlast⟩
    have hexec : exec (.catchUpCopyFrame w) s = .next (s.withPart (copyFrame w p)) := (onEvent_eq (copyFrame w) s).trans (by rw [hp])
    rw [copyFrame_due hx hcopying hdue] at hexec
    have hr' : findRecord p ({ x with copyPos := tick + 1 } : Window).recordId = some r := hr
    have hcodes : historyFrame p x tick = codes := rfl
    have hlength : codes.length = set.length := List.length_map _
    rw [hcodes] at hexec
    refine ⟨_, hexec, ?_, fun id hid => findRecord_storeFrame_other hr' w tick codes hid, storeFrame_slots hr' w tick codes, fun hwf hchain => ?_, ?_⟩
    · rw [← hlength]
      exact findRecord_storeFrame_self hr' w tick codes
    · rw [storeFrame_blocks hr' w tick codes, ← hlength]
      exact ⟨fun k a c hc ha => storeWords_readWord hchain codes r.words k hwf hc ha,
        fun a ha => storeWords_read_other r.chain codes r.words hwf ha⟩
    · rw [storeFrame_found hr']
  · have hexec : exec (.copyEnd w) s = .next (s.withPart (endCopy w p)) := (onEvent_eq (endCopy w) s).trans (by rw [hp])
    have hdue : copyDue p x = none := by
      obtain ⟨k, hk, hfrom⟩ := nextAligned_spec hd
      unfold copyDue
      rw [hnewest, hk]
      refine if_neg (fun h => ?_)
      rcases hleft k hfrom with hlater | hlater
      · exact absurd h.1 (Nat.not_le.2 hlater)
      · exact absurd h.2 (Nat.not_le.2 hlater)
    rw [hexec, endCopy_ends hx hcopying hnewest hdue]
    rfl

end Sys2Proof.Machine
end

section
/-!
SUPPORT. The window side of the part, the slots, the records and the blocks: what of a tick event leaves it alone (R125), and what of the part neither
reads nor changes it.
-/

namespace Sys2Proof.Machine

/-! ### The window side of the part -/

/-- The window side of the part: the window slots, the records and the blocks of Record Memory. -/
structure WindowSide where
  slots : Vector (Option Window) 4
  records : List Record
  blocks : Memory

/-- What the part holds on its window side. -/
def Part.windowSide (p : Part) : WindowSide :=
  { slots := p.slots, records := p.records, blocks := p.blocks }

/-- The part with another window side. -/
def Part.withWindows (ws : WindowSide) (p : Part) : Part :=
  { p with slots := ws.slots, records := ws.records, blocks := ws.blocks }

/-- Parts of one window side have the same slots, records and blocks. -/
theorem windowSide_eq_iff {p q : Part} :
    q.windowSide = p.windowSide ↔ q.slots = p.slots ∧ q.records = p.records ∧ q.blocks = p.blocks := by
  simp [Part.windowSide]

/-- A fold of operations that leave the window side alone leaves it alone. -/
theorem windowSide_foldl {α : Type} {f : Part → α → Part} (hf : ∀ p a, (f p a).windowSide = p.windowSide) (l : List α) (p : Part) :
    (l.foldl f p).windowSide = p.windowSide :=
  List.foldlRecOn (motive := fun q => q.windowSide = p.windowSide) l f rfl (fun q hq a _ => (hf q a).trans hq)

/-! ### What of a tick event leaves the window side alone (R125) -/

theorem windowSide_postReport (r : Report) (p : Part) : (postReport r p).windowSide = p.windowSide := by
  rw [postReport_frame]
  rfl

theorem windowSide_settleSpans (p : Part) : (settleSpans p).windowSide = p.windowSide :=
  settleSpans_induct (P := fun q => q.windowSide = p.windowSide) (fun _ _ _ h => h) (fun _ _ h => h)
    (fun r q h => (windowSide_postReport r q).trans h) rfl

theorem windowSide_writeHistory (tick : Nat) (codes : Vector SampleCode 8) (p : Part) :
    (writeHistory tick codes p).windowSide = p.windowSide := by
  refine windowSide_foldl (fun q ch => ?_) _ p
  rfl

theorem windowSide_triggerTick (tick : Nat) (codes : Vector SampleCode 8) (p : Part) :
    (triggerTick tick codes p).windowSide = p.windowSide := by
  have hread : (readLatches p).windowSide = p.windowSide := windowSide_foldl (fun _ _ => by rfl) allLines p
  have hjudged : (judgeDetectors codes (readLatches p)).windowSide = p.windowSide := by
    refine (windowSide_foldl (fun q ch => ?_) allChannels _).trans hread
    split <;> rfl
  unfold triggerTick
  generalize judgeDetectors codes (readLatches p) = q at hjudged
  extract_lets soft sources judged
  split
  · exact hjudged
  · exact hjudged

theorem windowSide_observeTick (codes : Vector SampleCode 8) (p : Part) : (observeTick codes p).windowSide = p.windowSide := by
  refine windowSide_foldl (fun q ch => ?_) _ p
  rfl

/-- What a tick event makes of the window side: RNG's, TRG's and history's share leave it alone; the copies about to lose a tick read theirs first, and
then the LIVE windows take the tick (R70, R71). -/
theorem tickEvent_windows (inputs : Vector Int 8) {p : Part} (h : takesTick p.smp = true) :
    ∃ o : Part, o.windowSide = (allSlots.foldl (fun q w => copyBeforeLoss p.smp.tickCounter w q) (settleSpans p)).windowSide ∧
      tickEvent inputs p =
        allSlots.foldl (fun q w => liveTick p.smp.tickCounter (sampledCodes inputs (settleSpans p)) w q) o := by
  unfold tickEvent
  rw [if_pos h]
  extract_lets tick settled codes copied written sampled triggered observed
  refine ⟨observed, ?_, rfl⟩
  calc observed.windowSide = triggered.windowSide := windowSide_observeTick codes triggered
    _ = sampled.windowSide := windowSide_triggerTick tick codes sampled
    _ = copied.windowSide := windowSide_writeHistory tick codes copied

/-! ### RNG and the window side do not meet -/

section Range

variable (ws : WindowSide)

theorem channels_withWindows (p : Part) : (p.withWindows ws).channels = p.channels := rfl

theorem modifyChannel_withWindows (ch : Fin 8) (f : Channel → Channel) (p : Part) :
    modifyChannel ch f (p.withWindows ws) = (modifyChannel ch f p).withWindows ws := rfl

theorem detectorUnknown_withWindows (ch : Fin 8) (p : Part) :
    detectorUnknown ch (p.withWindows ws) = (detectorUnknown ch p).withWindows ws := rfl

theorem postReport_withWindows (r : Report) (p : Part) : postReport r (p.withWindows ws) = (postReport r p).withWindows ws := by
  have hlnk : (p.withWindows ws).lnk = p.lnk := rfl
  unfold postReport
  rw [hlnk]
  split <;> rfl

theorem applyRange_withWindows (ch : Fin 8) (range : Nat) (once : Bool) (p : Part) :
    applyRange ch range once (p.withWindows ws) = (applyRange ch range once p).withWindows ws := by
  have htick : followingTick (p.withWindows ws) = followingTick p := rfl
  simp only [applyRange, htick, channels_withWindows, modifyChannel_withWindows, detectorUnknown_withWindows, postReport_withWindows]

theorem endPass_withWindows (ch : Fin 8) (outcome : PassOutcome) (p : Part) :
    endPass ch outcome (p.withWindows ws) = (endPass ch outcome p).withWindows ws := by
  simp only [endPass, modifyChannel_withWindows, channels_withWindows, postReport_withWindows]

theorem trackDecision_withWindows (ch : Fin 8) (d : SpanDecision) (p : Part) :
    trackDecision ch d (p.withWindows ws) = (trackDecision ch d p).withWindows ws := by
  unfold trackDecision
  rw [channels_withWindows]
  split
  · split
    · exact applyRange_withWindows ws ch _ false p
    · rfl
  · rfl

theorem onceDecision_withWindows (ch : Fin 8) (d : SpanDecision) (p : Part) :
    onceDecision ch d (p.withWindows ws) = (onceDecision ch d p).withWindows ws := by
  unfold onceDecision
  by_cases hlock : p.channels[ch].lockCount = 0
  · have hlock' : (p.withWindows ws).channels[ch].lockCount = 0 := hlock
    rw [if_pos hlock, if_pos hlock']
    dsimp only [channels_withWindows, modifyChannel_withWindows]
    generalize modifyChannel ch _ p = q
    cases decidedRange q.channels[ch].range d with
    | none => exact endPass_withWindows ws ch .settled q
    | some r =>
      dsimp only
      rw [applyRange_withWindows]
      split
      · exact endPass_withWindows ws ch .limit _
      · rfl
  · have hlock' : (p.withWindows ws).channels[ch].lockCount ≠ 0 := hlock
    rw [if_neg hlock, if_neg hlock']

theorem endSpan_withWindows (ch : Fin 8) (p : Part) : endSpan ch (p.withWindows ws) = (endSpan ch p).withWindows ws := by
  unfold endSpan
  dsimp only [channels_withWindows, modifyChannel_withWindows]
  cases p.channels[ch].mode with
  | manual => rfl
  | track => exact trackDecision_withWindows ws ch _ _
  | once => exact onceDecision_withWindows ws ch _ _

theorem takeCode_withWindows (ch : Fin 8) (code : SampleCode) (p : Part) :
    takeCode ch code (p.withWindows ws) = (takeCode ch code p).withWindows ws := by
  unfold takeCode
  rw [modifyChannel_withWindows]
  generalize modifyChannel ch (codeIntoSpan code) p = q
  dsimp only
  rw [channels_withWindows]
  split
  · exact endSpan_withWindows ws ch q
  · rfl

theorem settleSpans_withWindows (p : Part) : settleSpans (p.withWindows ws) = (settleSpans p).withWindows ws := by
  unfold settleSpans
  refine List.foldl_hom (Part.withWindows ws) fun q ch => ?_
  unfold spanArrival
  rw [channels_withWindows]
  split
  · rw [modifyChannel_withWindows, takeCode_withWindows]
  · rfl

end Range

/-- RNG, when it takes the codes on their way to it, changes the channels, the detectors and the reports alone. -/
theorem settleSpans_frame (p : Part) : settleSpans p =
    { p with channels := (settleSpans p).channels, detectors := (settleSpans p).detectors, lnk := (settleSpans p).lnk } :=
  settleSpans_induct (P := fun q => q = { p with channels := q.channels, detectors := q.detectors, lnk := q.lnk })
    (fun _ _ q h => by rw [h]; rfl) (fun _ q h => by rw [h]; rfl) (fun r q h => by rw [postReport_frame, h]) rfl

/-- A frame stored changes the window side alone. -/
theorem storeFrame_frame (w : Fin 4) (x : Window) (tick : Nat) (codes : List SampleCode) (p : Part) :
    storeFrame w x tick codes p = p.withWindows (storeFrame w x tick codes p).windowSide := by
  unfold storeFrame
  split <;> rfl

/-- The copy reads the Sampler, history and the window side alone. -/
theorem copyFrame_withRange (w : Fin 4) (c : Vector Channel 8) (d : Vector Detector 8) (l : Link) (p : Part) :
    copyFrame w { p with channels := c, detectors := d, lnk := l } =
      { copyFrame w p with channels := c, detectors := d, lnk := l } := by
  have hfind : ∀ id, findRecord { p with channels := c, detectors := d, lnk := l } id = findRecord p id := fun _ => rfl
  have hdue : ∀ x, copyDue { p with channels := c, detectors := d, lnk := l } x = copyDue p x := fun _ => rfl
  unfold copyFrame storeFrame
  simp only [hfind, hdue]
  split
  · split
    · split
      · split <;> rfl
      · rfl
    · rfl
  · rfl

/-- The copy changes the window side alone. -/
theorem copyFrame_frame (w : Fin 4) (p : Part) : copyFrame w p = p.withWindows (copyFrame w p).windowSide := by
  unfold copyFrame
  split
  · split
    · split
      · exact storeFrame_frame _ _ _ _ p
      · rfl
    · rfl
  · rfl

/-- The copy of a frame and what RNG takes before a tick come to the same in either order. -/
theorem settleSpans_copyFrame (w : Fin 4) (p : Part) : settleSpans (copyFrame w p) = copyFrame w (settleSpans p) := by
  calc settleSpans (copyFrame w p) = (settleSpans p).withWindows (copyFrame w p).windowSide := by
        rw [copyFrame_frame, settleSpans_withWindows]
        rfl
    _ = { p.withWindows (copyFrame w p).windowSide with
          channels := (settleSpans p).channels, detectors := (settleSpans p).detectors, lnk := (settleSpans p).lnk } := by
        rw [settleSpans_frame]
        rfl
    _ = copyFrame w (settleSpans p) := by
        rw [← copyFrame_frame, ← copyFrame_withRange, ← settleSpans_frame]

/-! ### Nothing is due after the copy -/

theorem transmittedLane_state (k : Packet) (ln : Lane) : (transmittedLane k ln).state = .sending := by
  unfold transmittedLane
  cases ln.awaiting <;> rfl

/-- The lane whose DATA frame starts is SENDING (R90). -/
theorem startLane_state (l : Fin 2) (k : Packet) (p : Part) : (startLane l k p).lanes[l].state = .sending := by
  have hlane : (modifyLane l (transmittedLane k) p).lanes[l].state = .sending := by
    rw [modifyLane_get_self]
    exact transmittedLane_state k p.lanes[l]
  unfold startLane
  generalize modifyLane l (transmittedLane k) p = q at hlane
  rcases beginStaging_spec l q with h | ⟨b, c, r, -, -, -, h⟩ | ⟨b, id, rest, r, -, -, -, -, h⟩ <;> rw [h]
  · exact hlane
  · rw [stageCurrent, modifyLane_get_self]
    exact hlane
  · rw [stageHead, modifyLane_get_self]
    exact hlane

theorem startLane_otherLane {k l : Fin 2} (h : k ≠ l) (packet : Packet) (p : Part) : (startLane k packet p).lanes[l] = p.lanes[l] := by
  rw [startLane, beginStaging_otherLane h, modifyLane_get_other h]

/-- Lanes that each stand as announced announce nothing more. -/
theorem announced_eq_self {p : Part} (h : ∀ l : Fin 2, announcedLane p.lanes[l] = p.lanes[l]) : announced p = p := by
  have hlanes : (announced p).lanes = p.lanes := Vector.ext fun i hi => (announced_get ⟨i, hi⟩ p).trans (h ⟨i, hi⟩)
  rw [announced_frame, hlanes]

/-- Once the due start has been made, each lane stands as announced: the one whose DATA frame started is SENDING. -/
theorem announcedLane_arbitrated (p : Part) (l : Fin 2) : announcedLane (arbitrated p).lanes[l] = (arbitrated p).lanes[l] := by
  have hannounced : announcedLane (announced p).lanes[l] = (announced p).lanes[l] := by rw [announced_get, announcedLane_idem]
  unfold arbitrated
  generalize announced p = q at hannounced
  rcases startFrame_spec q with ⟨h, -⟩ | ⟨r, rest, -, -, h⟩ | ⟨r, rest, -, -, -, h⟩ | ⟨k, packet, -, -, -, -, h⟩ <;> rw [h]
  · exact hannounced
  · exact hannounced
  · exact hannounced
  · change announcedLane (startLane k packet q).lanes[l] = (startLane k packet q).lanes[l]
    by_cases hl : k = l
    · subst hl
      rw [announcedLane, startLane_state]
      exact if_neg (fun hidle => by cases hidle.1)
    · rwa [startLane_otherLane hl]

/-- A start that has been made leaves none due while the lanes and LNK stay as they are. -/
theorem arbitrated_of_lanes_lnk {u p q : Part} (hp : arbitrated u = p) (hlanes : q.lanes = p.lanes) (hlnk : q.lnk = p.lnk) :
    arbitrated q = q := by
  have hready : readyLane q = readyLane p := by simp only [readyLane, hlanes, hlnk]
  have hannounced : announced q = q := announced_eq_self (fun l => by
    have hlane := announcedLane_arbitrated u l
    rw [hp] at hlane
    simpa only [hlanes] using hlane)
  rw [arbitrated, hannounced]
  rcases arbitrated_rests u with hbusy | ⟨hsame, hresponses, hreports, hnone⟩
  · rw [hp, ← hlnk] at hbusy
    exact startFrame_busy hbusy
  · rw [← hsame, hp] at hresponses hreports hnone
    rw [startFrame, hlnk, hresponses, hreports, hready, hnone]
    exact ite_self q

end Sys2Proof.Machine
end

section
/-!
SUPPORT. The LIVE windows at a tick event (R71, R72): what one slot makes of the tick, and what the four of them make of it, whose records are distinct
and whose chains share no block.
-/

namespace Sys2Proof.Machine

/-! ### One slot at the tick (R71, R72) -/

/-- A slot's LIVE window stores the frame of a tick: the tick is one of its aligned ticks and its record is there. -/
def Stores (tick : Nat) (p : Part) (w : Fin 4) (x : Window) (r : Record) : Prop :=
  p.slots[w] = some x ∧ x.phase = .live ∧ findRecord p x.recordId = some r ∧ x.first ≤ tick ∧ tick ≤ x.last ∧
    (tick - x.first) % x.decimation = 0

/-- A LIVE window after a tick: ENDED if it was its last (R72). -/
def tickedWindow (tick : Nat) (x : Window) : Window :=
  { x with phase := if tick = x.last then .ended else .live }

/-- The frame of a window's channels at a tick. -/
def liveFrame (codes : Vector SampleCode 8) (x : Window) : List SampleCode :=
  (channelList x.channels).map (fun c => codes[c])

theorem aligned_iff (x : Window) (tick : Nat) : aligned x tick = true ↔ x.first ≤ tick ∧ (tick - x.first) % x.decimation = 0 := by
  simp [aligned]

/-- Where a slot's record is in the same place, it stores the same. -/
theorem stores_congr {tick : Nat} {p q : Part} {w : Fin 4} {x : Window} {r : Record} (hslot : q.slots[w] = p.slots[w])
    (hrecord : findRecord q x.recordId = findRecord p x.recordId) : Stores tick q w x r ↔ Stores tick p w x r := by
  rw [Stores, Stores, hslot, hrecord]

section OneSlot

variable {tick : Nat} {codes : Vector SampleCode 8} {p : Part} {w : Fin 4} {x : Window} {r : Record}

theorem stores_record (h : Stores tick p w x r) : findRecord p (tickedWindow tick x).recordId = some r := by
  obtain ⟨-, -, hr, -⟩ := h
  exact hr

/-- A LIVE window whose last tick has not gone takes the tick. -/
theorem liveTick_live (hx : p.slots[w] = some x) (hlive : x.phase = .live) (hlast : tick ≤ x.last) :
    liveTick tick codes w p = if aligned x tick then storeFrame w (tickedWindow tick x) tick (liveFrame codes x) p
      else setSlot w (some (tickedWindow tick x)) p := by
  have hticked : (if tick = x.last then { x with phase := .ended } else x) = tickedWindow tick x := by
    unfold tickedWindow
    split
    · rfl
    · rw [← hlive]
  unfold liveTick
  simp only [hx, hticked]
  exact if_pos ⟨hlive, hlast⟩

theorem liveTick_stores (h : Stores tick p w x r) :
    liveTick tick codes w p = storeFrame w (tickedWindow tick x) tick (liveFrame codes x) p := by
  obtain ⟨hx, hlive, -, hfirst, hlast, haligned⟩ := h
  rw [liveTick_live hx hlive hlast, if_pos ((aligned_iff x tick).2 ⟨hfirst, haligned⟩)]

theorem liveTick_unaligned (hx : p.slots[w] = some x) (hlive : x.phase = .live) (hlast : tick ≤ x.last)
    (h : tick < x.first ∨ (tick - x.first) % x.decimation ≠ 0) :
    liveTick tick codes w p = setSlot w (some (tickedWindow tick x)) p := by
  refine (liveTick_live hx hlive hlast).trans (if_neg (fun haligned => ?_))
  obtain ⟨hfirst, hmod⟩ := (aligned_iff x tick).1 haligned
  rcases h with hbefore | hoff
  · exact absurd hfirst (Nat.not_le.2 hbefore)
  · exact hoff hmod

theorem liveTick_other (h : ∀ x : Window, p.slots[w] = some x → x.phase ≠ .live ∨ x.last < tick) : liveTick tick codes w p = p := by
  unfold liveTick
  split
  · rename_i x hx
    refine if_neg (fun htakes => ?_)
    rcases h x hx with hphase | hlast
    · exact hphase htakes.1
    · exact absurd htakes.2 (Nat.not_le.2 hlast)
  · rfl

end OneSlot

/-- All that a slot can make of a tick: it stores the frame, or at most its own window moves. -/
theorem liveTick_spec (tick : Nat) (codes : Vector SampleCode 8) (w : Fin 4) (p : Part) :
    (∃ x r, Stores tick p w x r) ∨ ∃ v, liveTick tick codes w p = setSlot w v p := by
  have hsame : setSlot w p.slots[w] p = p := by simp [setSlot]
  by_cases hlive : ∃ x, p.slots[w] = some x ∧ x.phase = .live ∧ tick ≤ x.last
  · obtain ⟨x, hx, hphase, hlast⟩ := hlive
    by_cases haligned : x.first ≤ tick ∧ (tick - x.first) % x.decimation = 0
    · cases hr : findRecord p x.recordId with
      | some r => exact .inl ⟨x, r, hx, hphase, hr, haligned.1, hlast, haligned.2⟩
      | none =>
        have hnone : findRecord p (tickedWindow tick x).recordId = none := hr
        refine .inr ⟨p.slots[w], ?_⟩
        rw [liveTick_live hx hphase hlast, if_pos ((aligned_iff x tick).2 haligned), storeFrame_not_found hnone, hsame]
    · exact .inr ⟨_, liveTick_unaligned hx hphase hlast (by rwa [not_and_or, Nat.not_le] at haligned)⟩
  · refine .inr ⟨p.slots[w], (liveTick_other (fun x hx => ?_)).trans hsame.symm⟩
    by_contra htakes
    rw [not_or, not_not, Nat.not_lt] at htakes
    exact hlive ⟨x, hx, htakes⟩

section Elsewhere

variable (tick : Nat) (codes : Vector SampleCode 8) {p : Part} {v : Fin 4}

/-- A slot leaves the other slots alone. -/
theorem liveTick_otherSlot {w : Fin 4} (h : v ≠ w) : (liveTick tick codes v p).slots[w] = p.slots[w] := by
  rcases liveTick_spec tick codes v p with ⟨x, r, hstores⟩ | ⟨y, hslot⟩
  · have hr := stores_record hstores
    rw [liveTick_stores hstores, storeFrame_slots hr]
    exact setSlot_get_other h _ p
  · rw [hslot, setSlot_get_other h]

/-- A slot leaves every record alone but that it stores in. -/
theorem liveTick_otherRecord {id : Nat} (h : ∀ x r, Stores tick p v x r → x.recordId ≠ id) :
    findRecord (liveTick tick codes v p) id = findRecord p id := by
  rcases liveTick_spec tick codes v p with ⟨x, r, hstores⟩ | ⟨y, hslot⟩
  · have hr := stores_record hstores
    rw [liveTick_stores hstores]
    exact findRecord_storeFrame_other hr v tick _ (h x r hstores).symm
  · rw [hslot]
    rfl

/-- A tick neither adds a record nor removes one. -/
theorem findRecord_of_liveTick {id : Nat} {r : Record} (h : findRecord (liveTick tick codes v p) id = some r) :
    ∃ r', findRecord p id = some r' := by
  by_cases hstored : ∃ x r', Stores tick p v x r' ∧ x.recordId = id
  · obtain ⟨x, r', ⟨-, -, hr', -⟩, rfl⟩ := hstored
    exact ⟨r', hr'⟩
  · exact ⟨r, (liveTick_otherRecord tick codes (fun x r' hs hid => hstored ⟨x, r', hs, hid⟩)).symm.trans h⟩

/-- Blocks in their order stay so. -/
theorem liveTick_wf (hwf : Memory.wf p.blocks) : Memory.wf (liveTick tick codes v p).blocks := by
  rcases liveTick_spec tick codes v p with ⟨x, r, hstores⟩ | ⟨y, hslot⟩
  · have hr := stores_record hstores
    rw [liveTick_stores hstores, storeFrame_blocks hr]
    exact storeWords_wf r.chain _ r.words hwf
  · rwa [hslot]

/-- An address lies outside the words of the frame that a slot stores. -/
def OutsideFrame (a : Nat) (x : Window) (r : Record) : Prop :=
  ∀ k b : Nat, k < (channelList x.channels).length → chainAddr r.chain (r.words + k) = some b → a ≠ b ∧ a ≠ b + 1

/-- A slot leaves every byte alone that is in none of the words it stores. -/
theorem liveTick_otherByte {a : Nat} (hwf : Memory.wf p.blocks) (h : ∀ x r, Stores tick p v x r → OutsideFrame a x r) :
    (liveTick tick codes v p).blocks.read a = p.blocks.read a := by
  rcases liveTick_spec tick codes v p with ⟨x, r, hstores⟩ | ⟨y, hslot⟩
  · have hr := stores_record hstores
    have hlength : (liveFrame codes x).length = (channelList x.channels).length := List.length_map _
    rw [liveTick_stores hstores, storeFrame_blocks hr]
    refine storeWords_read_other r.chain _ r.words hwf (fun k b hk => ?_)
    rw [hlength] at hk
    exact h x r hstores k b hk
  · rw [hslot]
    rfl

/-- A slot that stores nothing leaves the records and the blocks alone. -/
theorem liveTick_quiet (h : ∀ x r, ¬ Stores tick p v x r) :
    (liveTick tick codes v p).records = p.records ∧ (liveTick tick codes v p).blocks = p.blocks := by
  rcases liveTick_spec tick codes v p with ⟨x, r, hstores⟩ | ⟨y, hslot⟩
  · exact absurd hstores (h x r)
  · rw [hslot]
    exact ⟨rfl, rfl⟩

end Elsewhere

/-! ### The LIVE windows at the tick -/

/-- Two slots store apart: in distinct records, whose chains share no block. -/
def StoreApart (tick : Nat) (p : Part) (v w : Fin 4) : Prop :=
  v ≠ w ∧ ∀ x y r r', Stores tick p v x r → Stores tick p w y r' → x.recordId ≠ y.recordId ∧ ∀ b ∈ r.chain, b ∉ r'.chain

/-- What one slot makes of the tick does not change what another stores. -/
theorem stores_liveTick {tick : Nat} {p : Part} {v w : Fin 4} (codes : Vector SampleCode 8) (h : StoreApart tick p v w) (y : Window) (r : Record) :
    Stores tick (liveTick tick codes v p) w y r ↔ Stores tick p w y r := by
  obtain ⟨hne, hapart⟩ := h
  have hslot : (liveTick tick codes v p).slots[w] = p.slots[w] := liveTick_otherSlot tick codes hne
  have hkept : ∀ r', Stores tick p w y r' → findRecord (liveTick tick codes v p) y.recordId = findRecord p y.recordId :=
    fun r' hs => liveTick_otherRecord tick codes (fun x r'' hx => (hapart x y r'' r' hx hs).1)
  constructor
  · intro hs
    obtain ⟨hy, hlive, hr, hwhen⟩ := hs
    obtain ⟨r', hr'⟩ := findRecord_of_liveTick tick codes hr
    have hs' : Stores tick p w y r' := ⟨hslot.symm.trans hy, hlive, hr', hwhen⟩
    exact (stores_congr hslot (hkept r' hs')).1 ⟨hy, hlive, hr, hwhen⟩
  · intro hs
    exact (stores_congr hslot (hkept r hs)).2 hs

/-- The slots of a list take the tick one after another. -/
def liveTicks (tick : Nat) (codes : Vector SampleCode 8) (l : List (Fin 4)) (p : Part) : Part :=
  l.foldl (fun q w => liveTick tick codes w q) p

section AllSlots

variable {tick : Nat} {codes : Vector SampleCode 8}

theorem liveTicks_cons (v : Fin 4) (l : List (Fin 4)) (p : Part) :
    liveTicks tick codes (v :: l) p = liveTicks tick codes l (liveTick tick codes v p) := rfl

/-- Slots that store apart do so after the first of them has taken the tick. -/
theorem storeApart_tail {v : Fin 4} {l : List (Fin 4)} {p : Part} (h : (v :: l).Pairwise (StoreApart tick p)) :
    l.Pairwise (StoreApart tick (liveTick tick codes v p)) := by
  obtain ⟨hhead, htail⟩ := List.pairwise_cons.1 h
  refine htail.imp_of_mem fun {u w} hu hw hapart => ⟨hapart.1, fun x y r r' hx hy => ?_⟩
  exact hapart.2 x y r r' ((stores_liveTick codes (hhead u hu) x r).1 hx) ((stores_liveTick codes (hhead w hw) y r').1 hy)

/-- A property of the part that each slot keeps, storing no more than it stores in the part at the tick, is kept by all of them. -/
theorem liveTicks_induct {P : Part → Prop} {l : List (Fin 4)} {p : Part} (hapart : l.Pairwise (StoreApart tick p))
    (hstep : ∀ q v, v ∈ l → (∀ x r, Stores tick q v x r → Stores tick p v x r) → P q → P (liveTick tick codes v q)) (h : P p) :
    P (liveTicks tick codes l p) := by
  induction l generalizing p with
  | nil => exact h
  | cons v l ih =>
    have hhead := (List.pairwise_cons.1 hapart).1
    refine ih (storeApart_tail hapart) (fun q w hw hstores hq => ?_) (hstep p v List.mem_cons_self (fun _ _ hs => hs) h)
    exact hstep q w (List.mem_cons_of_mem v hw) (fun x r hs => (stores_liveTick codes (hhead w hw) x r).1 (hstores x r hs)) hq

variable {l : List (Fin 4)} {p : Part}

theorem liveTicks_otherSlot {w : Fin 4} (h : w ∉ l) : (liveTicks tick codes l p).slots[w] = p.slots[w] := by
  refine List.foldlRecOn (motive := fun (q : Part) => q.slots[w] = p.slots[w]) l _ rfl (fun q hq v hv => ?_)
  have hne : v ≠ w := fun hvw => h (hvw ▸ hv)
  exact (liveTick_otherSlot tick codes hne).trans hq

/-- A slot takes the tick as it stood before. -/
theorem liveTicks_slot {w : Fin 4} (hnodup : l.Nodup) (hw : w ∈ l) :
    ∃ q, q.slots[w] = p.slots[w] ∧ (liveTicks tick codes l p).slots[w] = (liveTick tick codes w q).slots[w] := by
  induction l generalizing p with
  | nil => cases hw
  | cons v l ih =>
    obtain ⟨hv, hnodup⟩ := List.nodup_cons.1 hnodup
    rw [liveTicks_cons]
    by_cases hvw : v = w
    · subst hvw
      exact ⟨p, rfl, liveTicks_otherSlot hv⟩
    · obtain ⟨q, hq, hslot⟩ := ih (p := liveTick tick codes v p) hnodup (List.mem_of_ne_of_mem (Ne.symm hvw) hw)
      exact ⟨q, hq.trans (liveTick_otherSlot tick codes hvw), hslot⟩

section Apart

variable (hapart : l.Pairwise (StoreApart tick p))
include hapart

theorem liveTicks_otherRecord {id : Nat} (h : ∀ w ∈ l, ∀ x r, Stores tick p w x r → x.recordId ≠ id) :
    findRecord (liveTicks tick codes l p) id = findRecord p id :=
  liveTicks_induct (P := fun q => findRecord q id = findRecord p id) hapart
    (fun _ v hv hstores hq => (liveTick_otherRecord tick codes (fun x r hs => h v hv x r (hstores x r hs))).trans hq) rfl

theorem liveTicks_otherByte {a : Nat} (hwf : Memory.wf p.blocks) (h : ∀ w ∈ l, ∀ x r, Stores tick p w x r → OutsideFrame a x r) :
    (liveTicks tick codes l p).blocks.read a = p.blocks.read a :=
  (liveTicks_induct (P := fun q => Memory.wf q.blocks ∧ q.blocks.read a = p.blocks.read a) hapart
    (fun _ v hv hstores ⟨hqwf, hq⟩ => ⟨liveTick_wf tick codes hqwf,
      (liveTick_otherByte tick codes hqwf (fun x r hs => h v hv x r (hstores x r hs))).trans hq⟩) ⟨hwf, rfl⟩).2

theorem liveTicks_quiet (h : ∀ w ∈ l, ∀ x r, ¬ Stores tick p w x r) :
    (liveTicks tick codes l p).records = p.records ∧ (liveTicks tick codes l p).blocks = p.blocks :=
  liveTicks_induct (P := fun q => q.records = p.records ∧ q.blocks = p.blocks) hapart (fun _ v hv hstores hq => by
    obtain ⟨hrecords, hblocks⟩ := liveTick_quiet tick codes (fun x r hs => h v hv x r (hstores x r hs))
    exact ⟨hrecords.trans hq.1, hblocks.trans hq.2⟩) ⟨rfl, rfl⟩

end Apart

/-- What a part holds after a slot's LIVE window has stored the frame of a tick (R3, R71, R72). -/
structure FrameStored (tick : Nat) (codes : Vector SampleCode 8) (w : Fin 4) (x : Window) (r : Record) (t : Part) : Prop where
  slot : t.slots[w] = some { tickedWindow tick x with clipped := x.clipped || (liveFrame codes x).any isEndCode }
  record : findRecord t x.recordId = some (recordWithFrame x tick (liveFrame codes x) r)
  words : ∀ (k a : Nat) (c : SampleCode), (liveFrame codes x)[k]? = some c → chainAddr r.chain (r.words + k) = some a →
    t.blocks.readWord a = c

theorem frameStored_liveTick {w : Fin 4} {x : Window} {r : Record} (hwf : Memory.wf p.blocks) (hchain : r.chain.Nodup)
    (h : Stores tick p w x r) : FrameStored tick codes w x r (liveTick tick codes w p) := by
  have hr := stores_record h
  rw [liveTick_stores h]
  constructor
  · rw [storeFrame_slots hr]
    exact setSlot_get_self w _ p
  · exact findRecord_storeFrame_self hr w tick _
  · intro k a c hc ha
    rw [storeFrame_blocks hr]
    exact storeWords_readWord hchain _ r.words k hwf hc ha

/-- The words of a frame lie outside the frame of a slot that stores apart. -/
theorem outsideFrame_of_disjoint {y : Window} {r r' : Record} (h : ∀ b ∈ r.chain, b ∉ r'.chain) {k a : Nat}
    (ha : chainAddr r.chain k = some a) : OutsideFrame a y r' ∧ OutsideFrame (a + 1) y r' :=
  ⟨fun _ _ _ hb => ⟨chainAddr_ne_of_disjoint h ha hb, (chainAddr_apart ha hb).1⟩,
    fun _ _ _ hb => ⟨(chainAddr_apart ha hb).2, fun heq => chainAddr_ne_of_disjoint h ha hb (Nat.succ.inj heq)⟩⟩

/-- Each slot that stores the tick's frame holds it after all have taken the tick. -/
theorem frameStored_liveTicks {w : Fin 4} {x : Window} {r : Record} (hchain : r.chain.Nodup) (hapart : l.Pairwise (StoreApart tick p)) (hw : w ∈ l)
    (hwf : Memory.wf p.blocks) (hstores : Stores tick p w x r) : FrameStored tick codes w x r (liveTicks tick codes l p) := by
  induction l generalizing p with
  | nil => cases hw
  | cons v l ih =>
    obtain ⟨hhead, -⟩ := List.pairwise_cons.1 hapart
    have htail := storeApart_tail (codes := codes) hapart
    rw [liveTicks_cons]
    by_cases hvw : v = w
    · subst hvw
      obtain ⟨hslot, hrecord, hwords⟩ := frameStored_liveTick (codes := codes) hwf hchain hstores
      have hothers : ∀ u ∈ l, ∀ y r', Stores tick (liveTick tick codes v p) u y r' →
          x.recordId ≠ y.recordId ∧ ∀ b ∈ r.chain, b ∉ r'.chain := fun u hu y r' hs =>
        (hhead u hu).2 x y r r' hstores ((stores_liveTick codes (hhead u hu) y r').1 hs)
      have hbytes : ∀ {k a}, chainAddr r.chain k = some a → (liveTicks tick codes l (liveTick tick codes v p)).blocks.readWord a =
          (liveTick tick codes v p).blocks.readWord a := fun {k a} ha =>
        readWord_congr
          (liveTicks_otherByte htail (liveTick_wf tick codes hwf)
            (fun u hu y r' hs => (outsideFrame_of_disjoint (hothers u hu y r' hs).2 ha).1))
          (liveTicks_otherByte htail (liveTick_wf tick codes hwf)
            (fun u hu y r' hs => (outsideFrame_of_disjoint (hothers u hu y r' hs).2 ha).2))
      constructor
      · rw [liveTicks_otherSlot (fun hv => (hhead v hv).1 rfl), hslot]
      · rw [liveTicks_otherRecord htail (fun u hu y r' hs => (hothers u hu y r' hs).1.symm), hrecord]
      · intro k a c hc ha
        rw [hbytes ha]
        exact hwords k a c hc ha
    · have hwl := List.mem_of_ne_of_mem (Ne.symm hvw) hw
      exact ih htail hwl (liveTick_wf tick codes hwf) ((stores_liveTick codes (hhead w hwl) x r).2 hstores)

end AllSlots

end Sys2Proof.Machine
end

section
/-!
SUPPORT. The catch-up copies before a tick (R70): where none is about to lose its next tick nothing is copied, and where one is, it reads that tick
first; and the statement about the tick event at the windows.
-/

namespace Sys2Proof.Machine

/-! ### The copy before a tick (R70) -/

/-- A slot's COPYING window, if it holds one, has its next aligned tick in history after the tick. -/
def KeepsNext (tick : Nat) (p : Part) (v : Fin 4) : Prop :=
  ∀ y : Window, p.slots[v] = some y → y.phase = .copying → tick < nextAligned y + 16384

/-- The next aligned tick stays in history where every aligned tick from the copy position on does. -/
theorem keepsNext_of_aligned {tick : Nat} {p : Part} {v : Fin 4}
    (h : ∀ y : Window, p.slots[v] = some y → y.phase = .copying →
      0 < y.decimation ∧ ∀ m : Nat, y.copyPos ≤ y.first + m * y.decimation → tick < y.first + m * y.decimation + 16384) :
    KeepsNext tick p v := by
  intro y hy hcopying
  obtain ⟨hd, hlater⟩ := h y hy hcopying
  obtain ⟨m, hnext, hfrom⟩ := nextAligned_spec hd
  rw [hnext]
  exact hlater m hfrom

/-- After an aligned tick has been read, the one after it is the next. -/
theorem nextAligned_after {y : Window} {k : Nat} (hd : 0 < y.decimation) (h : y.copyPos = y.first + k * y.decimation + 1) :
    nextAligned y = y.first + (k + 1) * y.decimation := by
  refine nextAligned_eq hd ?_ ?_ <;> rw [h, Nat.add_mul] <;> omega

/-- A window that is not COPYING copies nothing. -/
theorem copyFrame_not_copying {p : Part} {v : Fin 4} {y : Window} (hy : p.slots[v] = some y) (h : y.phase ≠ .copying) :
    copyFrame v p = p := by
  unfold copyFrame
  simp only [hy, if_neg h]

/-- A copy that loses nothing to the tick waits. -/
theorem copyBeforeLoss_keeps {tick : Nat} {p : Part} {v : Fin 4} (h : KeepsNext tick p v) : copyBeforeLoss tick v p = p := by
  unfold copyBeforeLoss
  cases hy : p.slots[v] with
  | none => rfl
  | some y =>
    dsimp only
    split
    · rename_i hlost
      by_cases hcopying : y.phase = .copying
      · exact absurd hlost (Nat.not_le.2 (h y hy hcopying))
      · exact copyFrame_not_copying hy hcopying
    · rfl

theorem copiesBeforeLoss_keep {tick : Nat} {p : Part} {l : List (Fin 4)} (h : ∀ v ∈ l, KeepsNext tick p v) :
    l.foldl (fun q v => copyBeforeLoss tick v q) p = p :=
  List.foldlRecOn (motive := fun q => q = p) l _ rfl (fun q hq v hv => by rw [hq]; exact copyBeforeLoss_keeps (h v hv))

/-- All that the copy of a frame can do (R70): nothing, or its slot's window has its copy position just after its next aligned tick; the other
slots' windows stay. -/
theorem copyFrame_slots (w : Fin 4) {p : Part} {x : Window} (hx : p.slots[w] = some x) :
    copyFrame w p = p ∨ ((∀ v, w ≠ v → (copyFrame w p).slots[v] = p.slots[v]) ∧
      ∃ clipped, (copyFrame w p).slots[w] = some { x with copyPos := nextAligned x + 1, clipped := clipped }) := by
  by_cases hcopying : x.phase = .copying
  · cases hdue : copyDue p x with
    | none =>
      refine .inl ?_
      unfold copyFrame
      simp only [hx, if_pos hcopying, hdue]
    | some tick =>
      have htick : nextAligned x = tick := by
        unfold copyDue at hdue
        split at hdue
        · split at hdue
          · exact Option.some.inj hdue
          · cases hdue
        · cases hdue
      rw [copyFrame_due hx hcopying hdue, htick]
      cases hr : findRecord p x.recordId with
      | none =>
        have hr' : findRecord p ({ x with copyPos := tick + 1 } : Window).recordId = none := hr
        exact .inl (storeFrame_not_found hr' w tick _)
      | some r =>
        have hr' : findRecord p ({ x with copyPos := tick + 1 } : Window).recordId = some r := hr
        rw [storeFrame_slots hr' w tick]
        exact .inr ⟨fun v hv => setSlot_get_other hv _ p, _, setSlot_get_self w _ p⟩
  · exact .inl (copyFrame_not_copying hx hcopying)

/-- A copy whose next aligned tick the tick would overwrite reads it before the tick, and does not lose the one after it (R70; assumption 8): to have
copied the frame beforehand comes to the same. -/
theorem copiesBeforeLoss_copyFrame {tick k : Nat} {w : Fin 4} {p : Part} {x : Window} (hx : p.slots[w] = some x) (hd : 0 < x.decimation)
    (hfrom : x.copyPos ≤ x.first + k * x.decimation) (hto : x.first + k * x.decimation < x.copyPos + x.decimation)
    (hlost : x.first + k * x.decimation + 16384 = tick) (hlower : ∀ v : Fin 4, v < w → KeepsNext tick p v) :
    allSlots.foldl (fun q v => copyBeforeLoss tick v q) (copyFrame w p) = allSlots.foldl (fun q v => copyBeforeLoss tick v q) p := by
  have hnext : nextAligned x = x.first + k * x.decimation := nextAligned_eq hd hfrom hto
  rcases copyFrame_slots w hx with hsame | ⟨hothers, clipped, hslot⟩
  · rw [hsame]
  obtain ⟨before, after, hsplit⟩ := List.append_of_mem (mem_allSlots w)
  have hbefore : ∀ v ∈ before, v < w := by
    have hsorted : allSlots.Pairwise (fun a b => a < b) := by decide
    rw [hsplit] at hsorted
    exact fun v hv => (List.pairwise_append.1 hsorted).2.2 v hv w List.mem_cons_self
  have hwaits : ∀ v ∈ before, KeepsNext tick p v := fun v hv => hlower v (hbefore v hv)
  have hwaits' : ∀ v ∈ before, KeepsNext tick (copyFrame w p) v := fun v hv y hy => hwaits v hv y (by
    rwa [hothers v (hbefore v hv).ne'] at hy)
  have hreads : copyBeforeLoss tick w p = copyFrame w p := by
    unfold copyBeforeLoss
    simp only [hx, hnext]
    exact if_pos hlost.le
  have hread : KeepsNext tick (copyFrame w p) w := by
    intro y hy _
    obtain rfl : { x with copyPos := nextAligned x + 1, clipped := clipped } = y := Option.some.inj (hslot.symm.trans hy)
    have hafter : nextAligned { x with copyPos := nextAligned x + 1, clipped := clipped } = x.first + (k + 1) * x.decimation :=
      nextAligned_after hd (congrArg (· + 1) hnext)
    rw [hafter, Nat.add_mul]
    omega
  rw [hsplit, List.foldl_append, List.foldl_append, List.foldl_cons, List.foldl_cons, copiesBeforeLoss_keep hwaits,
    copiesBeforeLoss_keep hwaits', hreads, copyBeforeLoss_keeps hread]

/-- The tick event comes to the same after the copy of a frame that it would itself have copied first (R70; assumption 8). -/
theorem tickEvent_copyFrame {w : Fin 4} {p : Part} (inputs : Vector Int 8)
    (h : allSlots.foldl (fun q v => copyBeforeLoss p.smp.tickCounter v q) (copyFrame w (settleSpans p)) =
      allSlots.foldl (fun q v => copyBeforeLoss p.smp.tickCounter v q) (settleSpans p)) (htakes : takesTick p.smp = true) :
    tickEvent inputs (copyFrame w p) = tickEvent inputs p := by
  have hsmp : (copyFrame w p).smp = p.smp := by
    rw [copyFrame_frame]
    rfl
  have hcodes : ∀ q, sampledCodes inputs (copyFrame w q) = sampledCodes inputs q := fun q => by
    rw [copyFrame_frame]
    rfl
  unfold tickEvent
  rw [hsmp, if_pos htakes, if_pos htakes]
  simp only [settleSpans_copyFrame, hcodes, h]

/-! ### The tick event at the windows -/

/-- Where no copy loses its next tick, a tick event is, at the windows, the LIVE windows' share of it. -/
theorem tickEvent_liveTicks (inputs : Vector Int 8) {p : Part} (htakes : takesTick p.smp = true)
    (hkeeps : ∀ v, KeepsNext p.smp.tickCounter p v) :
    ∃ o : Part, o.windowSide = p.windowSide ∧
      tickEvent inputs p = liveTicks p.smp.tickCounter (sampledCodes inputs (settleSpans p)) allSlots o := by
  obtain ⟨o, ho, ht⟩ := tickEvent_windows inputs htakes
  have hsettled := windowSide_settleSpans p
  obtain ⟨hslots, -, -⟩ := windowSide_eq_iff.1 hsettled
  have hwaits : ∀ v ∈ allSlots, KeepsNext p.smp.tickCounter (settleSpans p) v := fun v _ y hy => hkeeps v y (by rwa [hslots] at hy)
  rw [copiesBeforeLoss_keep hwaits, hsettled] at ho
  exact ⟨o, ho, ht⟩

/-- A CATCH_UP_COPY_FRAME just before the tick that would overwrite what it reads changes nothing of what the tick event leaves (R70; assumption 8). -/
theorem exec_tickEvent_copied {s u : State} {p : Part} (hp : arbitrated s.part = p) (inputs : Vector Int 8) (htakes : takesTick p.smp = true)
    {w : Fin 4} {x : Window} {k : Nat} (hx : p.slots[w] = some x) (hd : 0 < x.decimation) (hfrom : x.copyPos ≤ x.first + k * x.decimation)
    (hto : x.first + k * x.decimation < x.copyPos + x.decimation) (hlost : x.first + k * x.decimation + 16384 = p.smp.tickCounter)
    (hlower : ∀ v : Fin 4, v < w → KeepsNext p.smp.tickCounter p v) (hcopied : exec (.catchUpCopyFrame w) s = .next u) :
    exec (.tickEvent inputs) s = exec (.tickEvent inputs) u := by
  have hexec : exec (.tickEvent inputs) s = .next (s.withPart (tickEvent inputs p)) :=
    (onEvent_eq (tickEvent inputs) s).trans (by rw [hp])
  have hexecCopy : exec (.catchUpCopyFrame w) s = .next (s.withPart (copyFrame w p)) := (onEvent_eq (copyFrame w) s).trans (by rw [hp])
  obtain rfl : u = s.withPart (copyFrame w p) := Host.Outcome.next.inj (hcopied.symm.trans hexecCopy)
  have hrests : arbitrated (copyFrame w p) = copyFrame w p := by
    rw [copyFrame_frame]
    exact arbitrated_of_lanes_lnk hp rfl rfl
  have hsettled := (windowSide_eq_iff.1 (windowSide_settleSpans p)).1
  have hcopies := copiesBeforeLoss_copyFrame (p := settleSpans p) (by rw [hsettled]; exact hx) hd hfrom hto hlost
    (fun v hv y hy => hlower v hv y (by rwa [hsettled] at hy))
  rw [hexec]
  refine Eq.trans ?_ (onEvent_eq (tickEvent inputs) (s.withPart (copyFrame w p))).symm
  change _ = Host.Outcome.next ((s.withPart (copyFrame w p)).withPart (tickEvent inputs (arbitrated (copyFrame w p))))
  rw [hrests, tickEvent_copyFrame inputs hcopies htakes]

/-- Settles O25: the LIVE windows store the tick's frame each in its own record, and a copy about to lose its next tick has read it first. -/
theorem liveWindowStoresTheTicksFrame : Obligations.LiveWindowStoresTheTicksFrame := by
  intro s p inputs hp hrunning hnewest tick codes keeps storing
  have htakes : takesTick p.smp = true := by simp [takesTick, Config.lastTick, hrunning, hnewest]
  refine ⟨fun hkeeps hwf hchains hapart => ?_, fun w x k u hx _ hd hfrom hto hlost hlower hcopied => ?_⟩
  · obtain ⟨o, ho, ht⟩ := tickEvent_liveTicks inputs htakes (fun v => keepsNext_of_aligned (hkeeps v))
    have hexec : exec (.tickEvent inputs) s = .next (s.withPart (tickEvent inputs p)) :=
      (onEvent_eq (tickEvent inputs) s).trans (by rw [hp])
    obtain ⟨hslots, hrecords, hblocks⟩ := windowSide_eq_iff.1 ho
    have hslot : ∀ w : Fin 4, o.slots[w] = p.slots[w] := fun w => by rw [hslots]
    have hstores : ∀ w x r, Stores tick o w x r ↔ storing w x r := fun w x r =>
      stores_congr (hslot w) (findRecord_congr hrecords x.recordId)
    have hpairs : allSlots.Pairwise (StoreApart tick o) := by
      have hnodup : allSlots.Nodup := by decide
      exact hnodup.imp (fun {v w} hne => ⟨hne, fun x y r r' hx hy =>
        hapart v w x y r r' hne ((hstores v x r).1 hx) ((hstores w y r').1 hy)⟩)
    have hturn := fun w => liveTicks_slot (tick := tick) (codes := codes) (p := o) (by decide : allSlots.Nodup) (mem_allSlots w)
    refine ⟨liveTicks tick codes allSlots o, hexec.trans (by rw [ht]), fun w hother => ?_,
      fun w x hx hlive hlast => ⟨fun hoff => ?_, fun r hs => ?_⟩, fun id hid => ?_, fun a ha => ?_, fun hnone => ?_⟩
    · obtain ⟨q, hq, hafter⟩ := hturn w
      have hqp := hq.trans (hslot w)
      rw [hafter, liveTick_other (fun x hx => hother x (hqp.symm.trans hx)), hqp]
    · obtain ⟨q, hq, hafter⟩ := hturn w
      rw [hafter, liveTick_unaligned ((hq.trans (hslot w)).trans hx) hlive hlast hoff]
      exact setSlot_get_self w _ q
    · obtain ⟨hslot', hrecord, hwords⟩ := frameStored_liveTicks (codes := codes) (hchains w x r hs) hpairs (mem_allSlots w) (by rwa [hblocks])
        ((hstores w x r).2 hs)
      rw [liveFrame, List.any_map] at hslot'
      refine ⟨hslot', ?_, fun k c a hc => hwords k a codes[c] ?_⟩
      · rw [hrecord, recordWithFrame, liveFrame, List.length_map]
      · rw [liveFrame, List.getElem?_map, hc]
        rfl
    · exact (liveTicks_otherRecord hpairs (fun w _ x r hs => hid w x r ((hstores w x r).1 hs))).trans (findRecord_congr hrecords id)
    · rw [liveTicks_otherByte hpairs (by rwa [hblocks]) (fun w _ x r hs k b hk hb => ha w x r k b ((hstores w x r).1 hs) hk hb), hblocks]
    · obtain ⟨hr, hb⟩ := liveTicks_quiet (codes := codes) hpairs (fun w _ x r hs => hnone w x r ((hstores w x r).1 hs))
      exact ⟨hr.trans hrecords, hb.trans hblocks⟩
  · exact exec_tickEvent_copied hp inputs htakes hx hd hfrom hto hlost (fun v hv => keepsNext_of_aligned (hlower v hv)) hcopied

end Sys2Proof.Machine
end

section
/-!
SUPPORT. ACK with ACCEPT (R92, R93, R106): the bits of its three bytes, the lane as the settling of its packet leaves it, and the completion of a
delivery.
-/

namespace Sys2Proof.Machine

/-! ### The bytes of an ACK (R175) -/

theorem getLsbD_zero_eq (b : Byte) : b.getLsbD 0 = decide (b.toNat % 2 = 1) :=
  Nat.testBit_zero b.toNat

theorem getLsbD_one_eq (b : Byte) : b.getLsbD 1 = decide (b.toNat / 2 % 2 = 1) :=
  (Nat.testBit_succ b.toNat 0).trans (Nat.testBit_zero (b.toNat / 2))

/-- The lane that an ACK names. -/
theorem ackLane_eq {b : Byte} {l : Fin 2} (h : l.val = b.toNat % 2) : ackLane b = l := by
  unfold ackLane
  rw [getLsbD_zero_eq]
  by_cases hbit : b.toNat % 2 = 1
  · rw [decide_eq_true hbit, if_pos rfl]
    omega
  · rw [decide_eq_false hbit, if_neg Bool.false_ne_true]
    omega

/-- The sequence bit of an ACK, read as its lane is. -/
theorem ackSeq_eq {b : Byte} {s : Fin 2} (h : s.val = b.toNat % 2) : ackSeq b = s :=
  ackLane_eq h

theorem ackVerdict_accept {b : Byte} (h : b.toNat % 4 = 0) : ackVerdict b = .accept := by
  have hlow : b.getLsbD 0 = false := by
    rw [getLsbD_zero_eq, decide_eq_false_iff_not]
    omega
  have hhigh : b.getLsbD 1 = false := by
    rw [getLsbD_one_eq, decide_eq_false_iff_not]
    omega
  simp only [ackVerdict, hlow, hhigh]

/-! ### An ACK that the awaiting packet takes as its ACCEPT (R103, R105) -/

/-- An ACK whose bit is s matches the awaiting packet of a live record (R103). -/
theorem matchedPacket_eq {p : Part} {l : Fin 2} {a : Awaiting} (ha : p.lanes[l].awaiting = some a)
    (hlive : findRecord p a.recordId ≠ none) : matchedPacket p l p.lanes[l].seq = some a := by
  have hlive : (findRecord p a.recordId).isSome = true := Option.isSome_iff_ne_none.2 hlive
  simp only [matchedPacket, ha, hlive, and_self, if_true]

/-- The lane states in which an ACCEPT that matches is taken (R105). -/
theorem verdictEffect_accept {p : Part} {l : Fin 2} (a : Awaiting)
    (h : p.lanes[l].state = .awaiting ∨ p.lanes[l].state = .backoff ∨ p.lanes[l].state = .ready ∨
      (p.lanes[l].state = .sending ∧ p.lanes[l].haltNoted = false)) :
    verdictEffect l a .accept p = acceptPacket l a p := by
  rcases h with h | h | h | ⟨h, hnoted⟩ <;> simp only [verdictEffect, h]
  rw [hnoted]
  rfl

/-- The step of an ACK that its lane takes as an ACCEPT of the awaiting packet. -/
theorem exec_ack_accept {s : State} {p : Part} {lane seq verdict : Byte} {l : Fin 2} {a : Awaiting}
    (hp : partFound (ackMeets lane) s.part = p) (hl : l.val = lane.toNat % 2) (ha : p.lanes[l].awaiting = some a)
    (hlive : findRecord p a.recordId ≠ none) (hseq : p.lanes[l].seq.val = seq.toNat % 2) (hverdict : verdict.toNat % 4 = 0)
    (hstate : p.lanes[l].state = .awaiting ∨ p.lanes[l].state = .backoff ∨ p.lanes[l].state = .ready ∨
      (p.lanes[l].state = .sending ∧ p.lanes[l].haltNoted = false)) :
    exec (.ack lane seq verdict) s =
      .next (s.withPart (startAfter (ackMeets lane) s.part (acceptPacket l a (parserToHunt p)))) := by
  have htaken : ackArrives lane seq verdict p = acceptPacket l a (parserToHunt p) := by
    have hmatch : matchedPacket (parserToHunt p) l p.lanes[l].seq = some a := matchedPacket_eq (p := parserToHunt p) ha hlive
    simp only [ackArrives, takeAck, ackLane_eq hl, ackSeq_eq hseq, hmatch, ackVerdict_accept hverdict]
    exact verdictEffect_accept (p := parserToHunt p) a hstate
  rw [← htaken, ← hp]
  exact onMeeting_eq _ _ s

/-! ### The packet settled (R92) -/

/-- A lane after the acceptance of the packet in its send buffer, field by field (R92, R91). -/
def acceptedLane (ln : Lane) : Lane :=
  { ln with
    awaiting := none
    ackTimer := none
    backoffTimer := none
    retries := 0
    resync := false
    seq := 1 - ln.seq
    buffers := if ln.state = .sending then ln.buffers else ln.buffers.set ln.seq.val .empty
    releasing := if ln.state = .sending then some ln.seq else ln.releasing
    state := if ln.state = .sending then .sending
      else if (ln.buffers[1 - ln.seq]).holds then .ready else .idle }

/-- Settling the send buffer's packet leaves the spare buffer alone. -/
theorem settledBuffers_spare (ln : Lane) :
    (if ln.state = .sending then ln.buffers else ln.buffers.set ln.seq.val .empty)[1 - ln.seq] = ln.buffers[1 - ln.seq] := by
  have hne : ln.seq.val ≠ (1 - ln.seq).val := by omega
  split
  · rfl
  · exact Vector.getElem_set_ne _ _ hne

/-- The steps of an acceptance at its lane (R92). -/
theorem flippedLane_settledLane {a : Awaiting} {ln : Lane} (ha : a.buffer = ln.seq) : flippedLane (settledLane a ln) = acceptedLane ln := by
  simp only [flippedLane, settledLane, emptyBuffer_eq, ha, Lane.inFlight, Lane.spare, restState, settledBuffers_spare, decide_eq_true_eq]
  rfl

/-- The awaiting packet is final where the send buffer holds it as such (R85). -/
theorem awaitingFinal_eq {ln : Lane} {a : Awaiting} {k : Packet} (ha : a.buffer = ln.seq) (hk : ln.buffers[ln.seq] = .holding k) :
    awaitingFinal ln a = decide (k.index + 1 = k.total) := by
  simp only [awaitingFinal, ha, hk, Buffer.packet, Option.any_some, Packet.final]
  rfl

/-- The acceptance of a packet that is not its record's last changes the lane alone, and the lane then checks its staging (R92). -/
theorem acceptPacket_notFinal {p : Part} {l : Fin 2} {a : Awaiting} (ha : a.buffer = p.lanes[l].seq)
    (hfinal : awaitingFinal p.lanes[l] a = false) : acceptPacket l a p = beginStaging l (modifyLane l acceptedLane p) := by
  simp only [acceptPacket, hfinal, Bool.false_eq_true, if_false, modifyLane_modifyLane]
  exact congrArg (beginStaging l) (modifyLane_congr (flippedLane_settledLane ha))

/-- Settles O36: the packet is settled and s flips, on the lane alone. -/
theorem acceptanceSettlesThePacket : Obligations.AcceptanceSettlesThePacket := by
  intro s p lane seq verdict l a k hp hl ln ha hlive hseq hverdict hstate hbuffer hk hnotLast
  have hfinal : awaitingFinal (parserToHunt p).lanes[l] a = false := (awaitingFinal_eq hbuffer hk).trans (decide_eq_false hnotLast)
  rw [exec_ack_accept hp hl ha hlive hseq hverdict hstate, acceptPacket_notFinal (p := parserToHunt p) hbuffer hfinal]
  rfl

/-! ### The delivery completed (R93) -/

/-- A record whose last packet is accepted: DELIVERED in its slot if retain is yes, else freed, with a re-examination (R93, R13, R61). -/
def deliveredFrom (r : Record) (p : Part) : Part :=
  if r.retain then
    { p with records := modifyFirst (fun x => x.id == r.id) (fun x => { x with state := .delivered }) p.records }
  else reexamine { p with freeList := p.freeList ++ r.chain, records := p.records.eraseP (fun x => x.id == r.id) }

/-- What becomes of the record neither reads nor changes the lanes and the link. -/
theorem deliveredFrom_lanes_lnk (lanes : Vector Lane 2) (lnk : Link) (r : Record) (p : Part) :
    deliveredFrom r { p with lanes := lanes, lnk := lnk } = { deliveredFrom r p with lanes := lanes, lnk := lnk } := by
  unfold deliveredFrom
  split
  · rfl
  · exact reexamine_lanes_lnk lanes lnk { p with
      freeList := p.freeList ++ r.chain, records := p.records.eraseP (fun x => x.id == r.id) }

/-- A lane whose record's delivery is counted and leaves it (R93). -/
def countedLane (id : Nat) (ln : Lane) : Lane :=
  { dropCurrent id ln with counters := { ln.counters with completed := count16 ln.counters.completed } }

/-- The completion of the delivery of a live record (R93). -/
theorem completeDelivery_found {p : Part} {id : Nat} {r : Record} (hr : findRecord p id = some r) (l : Fin 2) :
    completeDelivery l id p = deliveredFrom r (modifyLane l (countedLane id) p) := by
  obtain rfl : r.id = id := findRecord_id hr
  unfold completeDelivery
  extract_lets counted
  have hcounted : findRecord counted r.id = some r := hr
  simp only [hcounted, freeAndReexamine, freeRecord]
  rfl

/-- What becomes of the record does not meet a change of a lane. -/
theorem modifyLane_deliveredFrom (l : Fin 2) (f : Lane → Lane) (r : Record) (p : Part) :
    modifyLane l f (deliveredFrom r p) = deliveredFrom r (modifyLane l f p) := by
  have hown : deliveredFrom r p = { deliveredFrom r p with lanes := p.lanes, lnk := p.lnk } := deliveredFrom_lanes_lnk p.lanes p.lnk r p
  have hlanes : (deliveredFrom r p).lanes = p.lanes := by rw [hown]
  have hlnk : (deliveredFrom r p).lnk = p.lnk := by rw [hown]
  refine Eq.trans ?_ (deliveredFrom_lanes_lnk (p.lanes.set l.val (f p.lanes[l])) p.lnk r p).symm
  simp only [modifyLane, hlanes, ← hlnk]

/-- The acceptance of the last packet of a live record's delivery (R92, R93). -/
theorem acceptPacket_final {p : Part} {l : Fin 2} {a : Awaiting} {r : Record} (ha : a.buffer = p.lanes[l].seq)
    (hfinal : awaitingFinal p.lanes[l] a = true) (hr : findRecord p a.recordId = some r) :
    acceptPacket l a p = beginStaging l (deliveredFrom r (modifyLane l (fun ln => countedLane a.recordId (acceptedLane ln)) p)) := by
  have hsettled : findRecord (modifyLane l (settledLane a) p) a.recordId = some r := hr
  have hlane : flippedLane (countedLane a.recordId (settledLane a p.lanes[l])) = countedLane a.recordId (acceptedLane p.lanes[l]) :=
    congrArg (countedLane a.recordId) (flippedLane_settledLane ha)
  simp only [acceptPacket, hfinal, if_true, completeDelivery_found hsettled, modifyLane_deliveredFrom, modifyLane_modifyLane]
  exact congrArg (fun q => beginStaging l (deliveredFrom r q)) (modifyLane_congr hlane)

/-- Settles O37: the delivery is counted on the lane that settled the packet, and retain decides what becomes of the record. -/
theorem finalAcceptanceCompletesTheDelivery : Obligations.FinalAcceptanceCompletesTheDelivery := by
  intro s p lane seq verdict l a k r hp hl ln ha hr hseq hverdict hstate hbuffer hk hlast u
  have hlive : findRecord p a.recordId ≠ none := by
    rw [hr]
    nofun
  have hfinal : awaitingFinal (parserToHunt p).lanes[l] a = true := (awaitingFinal_eq hbuffer hk).trans (decide_eq_true hlast)
  have hid : r.id = a.recordId := findRecord_id hr
  rw [exec_ack_accept hp hl ha hlive hseq hverdict hstate, acceptPacket_final (p := parserToHunt p) hbuffer hfinal hr, ← hid]
  have hdelivered := deliveredFrom_lanes_lnk (p.lanes.set l.val (countedLane r.id (acceptedLane ln)))
    { p.lnk with parser := Parser.hunting } r p
  exact congrArg (fun q => Host.Outcome.next (s.withPart (startAfter (ackMeets lane) s.part (beginStaging l q)))) hdelivered

end Sys2Proof.Machine
end

section
/-!
SUPPORT. LANE_SET (R98): its arguments, and the configuration written.
-/

namespace Sys2Proof.Machine

/-- The values that LANE_SET admits (R98). -/
theorem laneConfigArg_eq (k : Byte) (ackTimeout backoff : BitVec 16) (retryLimit : Byte) :
    laneConfigArg k ackTimeout backoff retryLimit =
      if k.toNat < 1 ∨ 15 < k.toNat ∨ ackTimeout.toNat < 1 ∨ 1000 < ackTimeout.toNat ∨ backoff.toNat < 1 ∨
          1000 < backoff.toNat ∨ 15 < retryLimit.toNat then none
      else some
        { k := k.toNat, ackTimeout := ackTimeout.toNat, backoffInterval := backoff.toNat, retryLimit := retryLimit.toNat } := by
  unfold laneConfigArg
  split
  · rw [if_neg (by omega)]
  · rw [if_pos (by omega)]

/-- LANE_SET with arguments that name a lane and a configuration (R98, R100). -/
theorem runLaneSet_reply {p : Part} (hin : p.lnk.intake = []) (tag : Byte) (payload : List Byte) {lane k retryLimit : Byte}
    {ackTimeout backoff : BitVec 16} {l : Fin 2} {c : LaneConfig} (hlane : laneArg lane = some l)
    (hconfig : laneConfigArg k ackTimeout backoff retryLimit = some c) :
    applyReply (runLaneSet lane k ackTimeout backoff retryLimit (p.holding tag payload)) =
      if p.lanes[l].state = .idle ∧ p.lanes[l].current = none then
        Part.answered tag (payloadCode payload) .ok [] (modifyLane l (fun ln => { ln with config := c, counters := LaneCounters.zero }) p)
      else Part.answered tag (payloadCode payload) .busy [] p := by
  have hlanes : (p.holding tag payload).lanes = p.lanes := rfl
  simp only [runLaneSet, hlane, hconfig, hlanes, modifyLane_holding]
  split
  · exact taken_holding (q := modifyLane _ _ p) hin tag payload
  · exact refuse_holding hin tag payload .busy

/-- LANE_SET with an argument outside its values (R98). -/
theorem runLaneSet_badArg {lane k retryLimit : Byte} {ackTimeout backoff : BitVec 16}
    (h : laneArg lane = none ∨ laneConfigArg k ackTimeout backoff retryLimit = none) (p : Part) :
    runLaneSet lane k ackTimeout backoff retryLimit p = refuse .badArg p := by
  unfold runLaneSet
  rcases h with h | h
  · rw [h]
  · rw [h]
    cases laneArg lane <;> rfl

/-- Settles O34: a lane byte that names no lane, values that LANE_SET does not admit, and then the state of the lane. -/
theorem laneSetWritesTheConfiguration : Obligations.LaneSetWritesTheConfiguration := by
  intro s p tag lane k ackTimeout backoff retryLimit hp haccepts
  have hin : p.lnk.intake = [] := haccepts.2.1
  refine onEvent_command hp haccepts (.laneSet lane k ackTimeout backoff retryLimit) ?_
  have hconfig := laneConfigArg_eq k ackTimeout backoff retryLimit
  rw [runCommand]
  by_cases hlane : lane.toNat < 2
  · have hnamed : laneArg lane = some ⟨lane.toNat, hlane⟩ := dif_pos hlane
    rw [dif_pos hlane]
    dsimp only
    split
    · rename_i houtside
      rw [if_pos houtside] at hconfig
      rw [runLaneSet_badArg (.inr hconfig)]
      exact refuse_holding hin tag _ .badArg
    · rename_i hvalues
      rw [if_neg hvalues] at hconfig
      exact runLaneSet_reply hin tag _ hnamed hconfig
  · have hnone : laneArg lane = none := dif_neg hlane
    rw [dif_neg hlane, runLaneSet_badArg (.inl hnone)]
    exact refuse_holding hin tag _ .badArg

end Sys2Proof.Machine
end

section
/-!
SUPPORT. Staging (R84 to R89): into which buffer it begins and with which packet, the bytes of a data packet at its end, and the header's bytes.
-/

namespace Sys2Proof.Machine

/-! ### The end of a staging (R89) -/

/-- The length of a data packet: its valid bytes up to a multiple of 32 (R86). -/
theorem length_dataPacketBytes (blocks : Memory) (r : Record) (size i : Nat) :
    (dataPacketBytes blocks r size i).length = (validBytes r.words size i + 31) / 32 * 32 := by
  simp only [dataPacketBytes, List.length_append, List.length_map, List.length_range, List.length_replicate]
  omega

/-- The valid bytes of a data packet are the record's stream bytes (R85, R86). -/
theorem dataPacketBytes_valid (blocks : Memory) (r : Record) (size i : Nat) {j : Nat} (h : j < validBytes r.words size i) :
    (dataPacketBytes blocks r size i)[j]? = some (streamByte blocks r.chain ((i - 1) * size + j)) := by
  rw [dataPacketBytes, List.getElem?_append_left (by simpa using h), List.getElem?_map, List.getElem?_range h]
  rfl

/-- Behind the valid bytes of a data packet there are zeros (R86). -/
theorem dataPacketBytes_padding (blocks : Memory) (r : Record) (size i : Nat) {j : Nat} (hvalid : validBytes r.words size i ≤ j)
    (hlength : j < (validBytes r.words size i + 31) / 32 * 32) : (dataPacketBytes blocks r size i)[j]? = some 0 := by
  rw [dataPacketBytes, List.getElem?_append_right (by simpa using hvalid), List.length_map, List.length_range,
    List.getElem?_replicate, if_pos (by omega)]

/-- The end of a staging fills in a packet's bytes alone. -/
theorem filledPacket_keeps (p : Part) (size : Nat) (k : Packet) :
    (filledPacket p size k).recordId = k.recordId ∧ (filledPacket p size k).index = k.index ∧
      (filledPacket p size k).total = k.total ∧ (filledPacket p size k).valid = k.valid := by
  unfold filledPacket
  split
  · exact ⟨rfl, rfl, rfl, rfl⟩
  · split <;> exact ⟨rfl, rfl, rfl, rfl⟩

theorem filledPacket_header {k : Packet} (h : k.index = 0) (p : Part) (size : Nat) : filledPacket p size k = k :=
  if_pos h

theorem filledPacket_data {p : Part} {k : Packet} {r : Record} (h : 1 ≤ k.index) (hr : findRecord p k.recordId = some r) (size : Nat) :
    (filledPacket p size k).bytes = dataPacketBytes p.blocks r size k.index := by
  rw [filledPacket, if_neg (by omega), hr]

/-- The end of the staging of a FILLING buffer (R89). -/
theorem endStaging_filling {p : Part} {l b : Fin 2} {k : Packet} (h : p.lanes[l].buffers[b] = .filling k) :
    endStaging l b p =
      beginStaging l (modifyLane l (stagedLane b (filledPacket p (packetSize p.lanes[l].config) k)) p) := by
  simp only [endStaging, h]

/-- A buffer that is not FILLING has no staging to end (assumption 5). -/
theorem endStaging_notFilling {p : Part} {l b : Fin 2} (h : ∀ k : Packet, p.lanes[l].buffers[b] ≠ .filling k) :
    endStaging l b p = p := by
  unfold endStaging
  split
  · rename_i k hk
    exact absurd hk (h k)
  · rfl
  · rfl

/-! ### The beginning of a staging (R84, R88) -/

/-- A staging may begin in buffer `b` of the lane (R88): the EMPTY send buffer with nothing awaiting, or the EMPTY spare buffer behind the awaiting
packet. -/
def takesStaging (ln : Lane) (b : Fin 2) : Prop :=
  ln.buffers[b] = .empty ∧
    ((b = ln.seq ∧ ln.awaiting = none) ∨
      (b ≠ ln.seq ∧ ∃ (a : Awaiting) (k : Packet), ln.awaiting = some a ∧ a.buffer = ln.seq ∧ ln.buffers[ln.seq] = .holding k))

/-- The buffer in which a staging may begin is the one that the lane's check finds. -/
theorem stagingTarget_of_takesStaging {ln : Lane} {b : Fin 2} (h : takesStaging ln b) : stagingTarget ln = some b := by
  obtain ⟨hempty, ⟨rfl, ha⟩ | ⟨hne, a, k, ha, hseq, hk⟩⟩ := h
  · exact stagingTarget_send ha hempty
  · obtain rfl : b = 1 - ln.seq := by omega
    exact stagingTarget_spare ha hseq hk hempty

/-- Where no buffer takes a staging the lane's check finds none. -/
theorem stagingTarget_of_none_takes {ln : Lane} (h : ∀ b : Fin 2, ¬ takesStaging ln b) : stagingTarget ln = none :=
  stagingTarget_none (fun ha hempty => h ln.seq ⟨hempty, .inl ⟨rfl, ha⟩⟩)
    (fun a k ha hseq hk hempty => h (1 - ln.seq) ⟨hempty, .inr ⟨by omega, a, k, ha, hseq, hk⟩⟩)

/-- With no packet of a current record to stage and no record in the queue, no staging begins. -/
theorem beginStaging_nothingDue {l : Fin 2} {p : Part} (hc : currentDue p.lanes[l] = none) (hq : p.lanes[l].queue = []) :
    beginStaging l p = p := by
  unfold beginStaging
  simp only [hc, hq]
  split <;> rfl

/-- A current record with a packet left has that packet to stage (R88). -/
theorem currentDue_some {ln : Lane} {c : Current} (hc : ln.current = some c) (hdue : c.next < c.total) : currentDue ln = some c := by
  simp only [currentDue, hc, hdue, if_true]

/-- The staging of the current record's next packet begins (R84, R88). -/
theorem beginStaging_current {l b : Fin 2} {c : Current} {r : Record} {p : Part} (ht : stagingTarget p.lanes[l] = some b)
    (hc : currentDue p.lanes[l] = some c) (hr : findRecord p c.recordId = some r) : beginStaging l p = stageCurrent l b c r p := by
  simp only [beginStaging, ht, hc, hr]

/-! ### The bytes of a header packet (R179) -/

/-- The record flags as a number: each flag has a bit of its own (section 10.4). -/
theorem flagsByte_eq (f : RecordFlags) : flagsByte f = BitVec.ofNat 8 (f.shortPre.toNat + 2 * f.truncated.toNat + 4 * f.clipped.toNat +
    8 * f.rangeUnknown.toNat + 16 * f.replayed.toNat) := by
  obtain ⟨shortPre, truncated, clipped, rangeUnknown, replayed⟩ := f
  revert shortPre truncated clipped rangeUnknown replayed
  decide

/-- Settles O40: the end of a staging by what the buffer is, its beginning by what is free and what is due, and the header's bytes field by field. -/
theorem stagingEndFillsTheBuffer : Obligations.StagingEndFillsTheBuffer := by
  refine ⟨fun s p l b hp => ⟨fun hnot => ?_, fun k hk => ?_⟩, fun p l => ?_, fun r size total => ?_⟩
  · have hsame := endStaging_notFilling hnot
    subst hp
    exact (onEvent_eq _ s).trans (by rw [hsame])
  · have hfilled := endStaging_filling hk
    obtain ⟨hid, hindex, htotal, hvalid⟩ := filledPacket_keeps p (packetSize p.lanes[l].config) k
    refine ⟨filledPacket p (packetSize p.lanes[l].config) k, ?_, hid, hindex, htotal, hvalid,
      fun hheader => filledPacket_header hheader p _, fun r hdata hr => ?_⟩
    · subst hp
      exact (onEvent_eq _ s).trans (by rw [hfilled]; rfl)
    · rw [filledPacket_data hdata hr]
      exact ⟨length_dataPacketBytes _ _ _ _, fun j => dataPacketBytes_valid _ _ _ _, fun j => dataPacketBytes_padding _ _ _ _⟩
  · refine ⟨fun hnone => ?_, fun hcurrent hq => ?_, fun b c r hfree hc hdue hr => ?_, fun b id behind r hfree hcurrent hq hr => ?_⟩
    · exact beginStaging_none (stagingTarget_of_none_takes hnone)
    · exact beginStaging_nothingDue (currentDue_none hcurrent) hq
    · rw [beginStaging_current (stagingTarget_of_takesStaging hfree) (currentDue_some hc hdue) hr]
      rfl
    · have htail : p.lanes[l].queue.tail = behind := by
        rw [hq]
        rfl
      rw [beginStaging_head (stagingTarget_of_takesStaging hfree) (currentDue_none hcurrent) hq hr, ← findRecord_id hr, ← htail]
      rfl
  · rw [headerBytes, flagsByte_eq]
    rfl

end Sys2Proof.Machine
end

section
/-!
SUPPORT. The timers of a lane (R111, R112): which changes of a lane start, stop or keep them, and that every event of a lane keeps the ack timer to
AWAITING and the backoff timer to BACKOFF.
-/

namespace Sys2Proof.Machine

/-! ### The timers of one lane -/

/-- A lane whose ack timer runs only in AWAITING and whose backoff timer runs only in BACKOFF (R111, R112). -/
structure Lane.Timed (ln : Lane) : Prop where
  ack : ln.ackTimer.isSome = true → ln.state = .awaiting
  backoff : ln.backoffTimer.isSome = true → ln.state = .backoff

/-- A lane with both timers stopped. -/
structure Lane.Stopped (ln : Lane) : Prop where
  ack : ln.ackTimer = none
  backoff : ln.backoffTimer = none

/-- Stopped timers fit every state. -/
theorem Lane.Stopped.timed {ln : Lane} (h : ln.Stopped) : ln.Timed :=
  ⟨fun ha => by simp [h.ack] at ha, fun hb => by simp [h.backoff] at hb⟩

theorem Lane.Timed.ackStopped {ln : Lane} {st : LaneState} (h : ln.Timed) (hs : ln.state = st) (hst : st ≠ .awaiting) : ln.ackTimer = none :=
  Option.not_isSome_iff_eq_none.1 (fun hruns => hst (hs.symm.trans (h.ack hruns)))

theorem Lane.Timed.backoffStopped {ln : Lane} {st : LaneState} (h : ln.Timed) (hs : ln.state = st) (hst : st ≠ .backoff) :
    ln.backoffTimer = none :=
  Option.not_isSome_iff_eq_none.1 (fun hruns => hst (hs.symm.trans (h.backoff hruns)))

/-- Outside AWAITING and BACKOFF both timers stand still. -/
theorem Lane.Timed.stopped {ln : Lane} {st : LaneState} (h : ln.Timed) (hs : ln.state = st) (hst : st ≠ .awaiting ∧ st ≠ .backoff) :
    ln.Stopped :=
  ⟨h.ackStopped hs hst.1, h.backoffStopped hs hst.2⟩

/-- A lane that keeps its state and its timers. -/
theorem Lane.Timed.same {ln ln' : Lane} (h : ln.Timed) (hs : ln'.state = ln.state) (ha : ln'.ackTimer = ln.ackTimer)
    (hb : ln'.backoffTimer = ln.backoffTimer) : ln'.Timed :=
  ⟨fun hr => hs.trans (h.ack (ha ▸ hr)), fun hr => hs.trans (h.backoff (hb ▸ hr))⟩

/-! ### The changes of a lane -/

theorem timed_announcedLane {ln : Lane} (h : ln.Timed) : (announcedLane ln).Timed := by
  unfold announcedLane
  split
  · rename_i hidle
    obtain ⟨ha, hb⟩ := h.stopped hidle.1 (by decide)
    exact Lane.Stopped.timed ⟨ha, hb⟩
  · exact h

/-- Only a READY lane's packet is transmitted (R90). -/
theorem timed_transmittedLane (k : Packet) {ln : Lane} (h : ln.Timed) (hready : ln.state = .ready) : (transmittedLane k ln).Timed := by
  obtain ⟨ha, hb⟩ := h.stopped hready (by decide)
  unfold transmittedLane
  split <;> exact Lane.Stopped.timed ⟨ha, hb⟩

theorem timed_stagedLane (b : Fin 2) (k : Packet) {ln : Lane} (h : ln.Timed) : (stagedLane b k ln).Timed := by
  by_cases hstart : b = ln.seq ∧ ln.state = .idle ∧ ln.awaiting = none
  · obtain ⟨ha, hb⟩ := h.stopped hstart.2.1 (by decide)
    exact Lane.Stopped.timed ⟨ha, hb⟩
  · exact h.same (if_neg hstart) rfl rfl

theorem timed_releaseBuffer {ln : Lane} (h : ln.Timed) : (releaseBuffer ln).Timed := by
  unfold releaseBuffer
  split
  · exact h.same rfl rfl rfl
  · exact h

theorem releaseBuffer_state (ln : Lane) : (releaseBuffer ln).state = ln.state := by
  unfold releaseBuffer
  split <;> rfl

/-- The completion of a frame starts the ack timer as it moves the lane to AWAITING (R91, R111). -/
theorem timed_completedLane {ln : Lane} (h : ln.Timed) (hsending : ln.state = .sending) : (completedLane ln).Timed := by
  obtain ⟨ha, hb⟩ := h.stopped hsending (by decide)
  unfold completedLane
  split
  · exact ⟨fun _ => rfl, fun hr => by simp [hb] at hr⟩
  · exact Lane.Stopped.timed ⟨ha, hb⟩

theorem stopped_settledLane (a : Awaiting) (ln : Lane) : (settledLane a ln).Stopped := ⟨rfl, rfl⟩

theorem stopped_countedLane (id : Nat) {ln : Lane} (h : ln.Stopped) : (countedLane id ln).Stopped := ⟨h.ack, h.backoff⟩

theorem stopped_flippedLane {ln : Lane} (h : ln.Stopped) : (flippedLane ln).Stopped := ⟨h.ack, h.backoff⟩

/-- A HOLD stops the ack timer and starts the backoff timer as it moves the lane to BACKOFF (R108, R112). -/
theorem timed_heldLane (ln : Lane) : (heldLane ln).Timed := ⟨nofun, fun _ => rfl⟩

theorem stopped_abandonedAwaiting (id : Nat) (a : Awaiting) (ln : Lane) : (abandonedAwaiting id a ln).Stopped := ⟨rfl, rfl⟩

theorem timed_abandonedUnsent (id : Nat) (b : Option (Fin 2)) {ln : Lane} (h : ln.Timed) : (abandonedUnsent id b ln).Timed := by
  cases b with
  | none => exact h.same rfl rfl rfl
  | some b =>
    by_cases hready : ln.state = .ready ∧ b = ln.seq
    · obtain ⟨ha, hb⟩ := h.stopped hready.1 (by decide)
      exact Lane.Stopped.timed ⟨ha, hb⟩
    · exact h.same (if_neg hready) rfl rfl

theorem stopped_exchangedLane {ln : Lane} (h : ln.Stopped) : (exchangedLane ln).Stopped := by
  unfold exchangedLane
  split
  · exact ⟨h.ack, h.backoff⟩
  · exact h

theorem stopped_droppedSpare {ln : Lane} (h : ln.Stopped) : (droppedSpare ln).Stopped := by
  unfold droppedSpare
  split
  · exact ⟨h.ack, h.backoff⟩
  · exact h

theorem stopped_clearedLane {ln : Lane} (h : ln.Stopped) : (clearedLane ln).Stopped := by
  obtain ⟨ha, hb⟩ := stopped_droppedSpare (stopped_exchangedLane h)
  exact ⟨ha, hb⟩

theorem stopped_flushedLane (ln : Lane) : (flushedLane ln).Stopped := ⟨rfl, rfl⟩

/-! ### Both lanes -/

/-- Both lanes keep their timers to their states. -/
def Part.Timed (p : Part) : Prop :=
  ∀ l : Fin 2, p.lanes[l].Timed

theorem laneTimersSound_iff (p : Part) : LaneTimersSound p ↔ p.Timed :=
  ⟨fun h l => ⟨(h l).1, (h l).2⟩, fun h l => ⟨(h l).ack, (h l).backoff⟩⟩

/-- What leaves the lanes alone leaves their timers alone. -/
theorem Part.Timed.of_lanes {p q : Part} (h : p.Timed) (hlanes : q.lanes = p.lanes) : q.Timed := by
  unfold Part.Timed
  rwa [hlanes]

theorem timed_modifyLane {l : Fin 2} {f : Lane → Lane} {p : Part} (h : p.Timed) (hf : (f p.lanes[l]).Timed) : (modifyLane l f p).Timed := by
  intro k
  rw [modifyLane_get]
  split
  · exact hf
  · exact h k

theorem timed_foldl {α : Type} {f : Part → α → Part} (hf : ∀ p a, p.Timed → (f p a).Timed) (l : List α) {p : Part} (h : p.Timed) :
    (l.foldl f p).Timed :=
  List.foldlRecOn (motive := Part.Timed) l f h (fun q hq a _ => hf q a hq)

theorem timed_modifyPlan (i : Fin 8) (f : Plan → Plan) {p : Part} (h : p.Timed) : (modifyPlan i f p).Timed := h
theorem timed_modifyChannel (c : Fin 8) (f : Channel → Channel) {p : Part} (h : p.Timed) : (modifyChannel c f p).Timed := h
theorem timed_modifyDetector (c : Fin 8) (f : Detector → Detector) {p : Part} (h : p.Timed) : (modifyDetector c f p).Timed := h
theorem timed_modifyLine (l : Fin 4) (f : ExtLine → ExtLine) {p : Part} (h : p.Timed) : (modifyLine l f p).Timed := h

theorem timed_postReport (r : Report) {p : Part} (h : p.Timed) : (postReport r p).Timed :=
  h.of_lanes (postReport_lanes r p)

theorem reexamine_lanes (p : Part) : (reexamine p).lanes = p.lanes := by
  rw [reexamine_frame]

theorem timed_reexamine {p : Part} (h : p.Timed) : (reexamine p).Timed :=
  h.of_lanes (reexamine_lanes p)

theorem freeAndReexamine_lanes (id : Nat) (p : Part) : (freeAndReexamine id p).lanes = p.lanes := by
  refine (reexamine_lanes _).trans ?_
  rcases freeRecord_spec id p with ⟨-, h⟩ | ⟨r, -, h⟩ <;> rw [h]

theorem timed_freeAndReexamine (id : Nat) {p : Part} (h : p.Timed) : (freeAndReexamine id p).Timed :=
  h.of_lanes (freeAndReexamine_lanes id p)

/-- A staging that begins changes the buffers, the queue and the current record of its lane alone (R84). -/
theorem timed_beginStaging (l : Fin 2) {p : Part} (h : p.Timed) : (beginStaging l p).Timed := by
  rcases beginStaging_spec l p with hs | ⟨b, c, r, -, -, -, hs⟩ | ⟨b, id, rest, r, -, -, -, -, hs⟩ <;> rw [hs]
  · exact h
  · exact timed_modifyLane h ((h l).same rfl rfl rfl)
  · exact timed_modifyLane (p := modifyRecord r.id recordSending p) h ((h l).same rfl rfl rfl)

theorem timed_handOff (l : Fin 2) (id : Nat) {p : Part} (h : p.Timed) : (handOff l id p).Timed :=
  timed_beginStaging l (timed_modifyLane h ((h l).same rfl rfl rfl))

/-! ### The events of a lane -/

theorem timed_endStaging (l b : Fin 2) {p : Part} (h : p.Timed) : (endStaging l b p).Timed := by
  unfold endStaging
  split
  · exact timed_beginStaging l (timed_modifyLane h (timed_stagedLane b _ (h l)))
  · exact h
  · exact h

theorem timed_haltLane (l : Fin 2) (reason : LaneHalt) {p : Part} (h : p.Timed) : (haltLane l reason p).Timed :=
  timed_postReport _ (timed_modifyLane h (Lane.Stopped.timed ⟨rfl, rfl⟩))

theorem timed_completeLane (l : Fin 2) {p : Part} (h : p.Timed) : (completeLane l p).Timed := by
  unfold completeLane
  split
  · rename_i hsending
    have hreleased : (modifyLane l releaseBuffer p).Timed := timed_modifyLane h (timed_releaseBuffer (h l))
    have hstate : (modifyLane l releaseBuffer p).lanes[l].state = .sending := by
      rw [modifyLane_get_self, releaseBuffer_state, hsending]
    refine timed_beginStaging l ?_
    split
    · exact timed_haltLane l .host hreleased
    · exact timed_modifyLane hreleased (timed_completedLane (hreleased l) hstate)
  · exact h

/-- A retry stops the ack timer; in AWAITING no other runs (R107, R111). -/
theorem timed_retryLane (l : Fin 2) {p : Part} (h : p.Timed) (hawaiting : p.lanes[l].state = .awaiting) : (retryLane l p).Timed := by
  have hstopped : ({ p.lanes[l] with ackTimer := none, retries := p.lanes[l].retries + 1 } : Lane).Stopped :=
    ⟨rfl, (h l).backoffStopped hawaiting (by decide)⟩
  unfold retryLane
  extract_lets counted
  have hcounted : counted.Timed := timed_modifyLane h hstopped.timed
  have hlane : counted.lanes[l].Stopped := by
    rw [modifyLane_get_self]
    exact hstopped
  split
  · exact timed_haltLane l .retryLimit hcounted
  · exact timed_modifyLane hcounted (Lane.Stopped.timed ⟨hlane.ack, hlane.backoff⟩)

theorem timed_ackExpiry (l : Fin 2) {p : Part} (h : p.Timed) : (ackExpiry l p).Timed := by
  unfold ackExpiry
  split
  · rename_i hruns
    exact timed_retryLane l h hruns.1
  · exact h

theorem timed_backoffExpiry (l : Fin 2) {p : Part} (h : p.Timed) : (backoffExpiry l p).Timed := by
  unfold backoffExpiry
  split
  · rename_i hruns
    exact timed_modifyLane h (Lane.Stopped.timed ⟨(h l).ackStopped hruns.1 (by decide), rfl⟩)
  · exact h

/-- A millisecond counts a running timer down where it runs (R111, R112). -/
theorem timed_laneMillisecond (l : Fin 2) {p : Part} (h : p.Timed) : (laneMillisecond l p).Timed := by
  unfold laneMillisecond
  split
  · rename_i n hack
    split
    · exact timed_ackExpiry l h
    · exact timed_modifyLane h ⟨fun _ => (h l).ack (congrArg Option.isSome hack), (h l).backoff⟩
  · rename_i n hack hbackoff
    split
    · exact timed_backoffExpiry l h
    · exact timed_modifyLane h ⟨(h l).ack, fun _ => (h l).backoff (congrArg Option.isSome hbackoff)⟩
  · exact h

theorem timed_abandonRecord (l : Fin 2) (id : Nat) {p : Part} (h : p.Timed) : (abandonRecord l id p).Timed := by
  unfold abandonRecord
  dsimp only
  split
  · exact timed_beginStaging l (timed_postReport _ (timed_modifyLane h (stopped_abandonedAwaiting _ _ _).timed))
  · exact timed_beginStaging l (timed_postReport _ (timed_modifyLane h (timed_abandonedUnsent _ _ (h l))))

/-- In HALTED no timer runs, and LANE_CLEAR_HALT starts none (R115, R116). -/
theorem timed_clearHalt (l : Fin 2) {p : Part} (h : p.Timed) (hhalted : p.lanes[l].state = .halted) : (clearHalt l p).Timed :=
  timed_beginStaging l (timed_modifyLane h (stopped_clearedLane ((h l).stopped hhalted (by decide))).timed)

/-- The completion of a delivery changes the lane by the count and the current record alone (R93). -/
theorem completeDelivery_lanes (l : Fin 2) (id : Nat) (p : Part) :
    (completeDelivery l id p).lanes = (modifyLane l (countedLane id) p).lanes := by
  unfold completeDelivery
  dsimp only
  split
  · split
    · rfl
    · exact freeAndReexamine_lanes id _
  · rfl

theorem stopped_completeDelivery {l : Fin 2} (id : Nat) {p : Part} (h : p.lanes[l].Stopped) : (completeDelivery l id p).lanes[l].Stopped := by
  simp only [completeDelivery_lanes, modifyLane_get_self]
  exact stopped_countedLane id h

theorem timed_completeDelivery {l : Fin 2} (id : Nat) {p : Part} (h : p.Timed) (hl : p.lanes[l].Stopped) : (completeDelivery l id p).Timed :=
  (timed_modifyLane h (stopped_countedLane id hl).timed).of_lanes (completeDelivery_lanes l id p)

/-- An acceptance stops both timers before the lane takes its next state (R92). -/
theorem timed_acceptPacket (l : Fin 2) (a : Awaiting) {p : Part} (h : p.Timed) : (acceptPacket l a p).Timed := by
  unfold acceptPacket
  extract_lets final settled completed
  have hsettled : settled.Timed := timed_modifyLane h (stopped_settledLane a _).timed
  have hlane : settled.lanes[l].Stopped := by
    rw [modifyLane_get_self]
    exact stopped_settledLane a _
  have hdelivered : completed.Timed ∧ completed.lanes[l].Stopped := by
    by_cases hfinal : final = true
    · rw [show completed = completeDelivery l a.recordId settled from if_pos hfinal]
      exact ⟨timed_completeDelivery a.recordId hsettled hlane, stopped_completeDelivery a.recordId hlane⟩
    · rw [show completed = settled from if_neg hfinal]
      exact ⟨hsettled, hlane⟩
  exact timed_beginStaging l (timed_modifyLane hdelivered.1 (stopped_flippedLane hdelivered.2).timed)

theorem timed_staleAck (l : Fin 2) {p : Part} (h : p.Timed) : (staleAck l p).Timed :=
  timed_modifyLane h ((h l).same rfl rfl rfl)

theorem timed_verdictEffect (l : Fin 2) (a : Awaiting) (v : Verdict) {p : Part} (h : p.Timed) : (verdictEffect l a v p).Timed := by
  have haccept := timed_acceptPacket l a h
  have hhalt := timed_haltLane l .host h
  have hstale := timed_staleAck l h
  have hheld : (modifyLane l heldLane p).Timed := timed_modifyLane h (timed_heldLane _)
  have hnoted : (modifyLane l (fun ln => { ln with haltNoted := true }) p).Timed := timed_modifyLane h ((h l).same rfl rfl rfl)
  have hretry := timed_retryLane l h
  unfold verdictEffect
  split
  case h_2 hawaiting => exact hretry hawaiting
  all_goals (try split) <;> assumption

theorem timed_takeAck (lane seq verdict : Byte) {p : Part} (h : p.Timed) : (takeAck lane seq verdict p).Timed := by
  unfold takeAck
  dsimp only
  split
  · exact timed_verdictEffect _ _ _ h
  · exact timed_staleAck _ h

theorem timed_ackArrives (lane seq verdict : Byte) {p : Part} (h : p.Timed) : (ackArrives lane seq verdict p).Timed :=
  timed_takeAck lane seq verdict (p := parserToHunt p) h

end Sys2Proof.Machine
end

section
/-!
SUPPORT. The timers of the lanes in every step: of what is not a lane's own event only a seal, RESET FLUSH, a device reset and the commands that name
a record or a lane meet them; and the invariant O57.
-/

namespace Sys2Proof.Machine

/-! ### Plans, windows and the Sampler -/

theorem timed_haltPlan (i : Fin 8) (reason : PlanHalt) (removed : Nat) {p : Part} (h : p.Timed) : (haltPlan i reason removed p).Timed :=
  timed_postReport _ h

theorem timed_planDoneIfIdle (i : Fin 8) {p : Part} (h : p.Timed) : (planDoneIfIdle i p).Timed := by
  unfold planDoneIfIdle
  split
  · exact timed_postReport _ h
  · exact h

theorem timed_expireJob (reason : ExpiryReason) (j : Job) {p : Part} (h : p.Timed) : (expireJob reason j p).Timed :=
  timed_postReport _ h

theorem timed_expireByHistory {p : Part} (h : p.Timed) : (expireByHistory p).Timed := by
  unfold expireByHistory
  split
  · exact h
  · exact timed_reexamine (timed_foldl (fun _ j hq => timed_planDoneIfIdle _ (timed_expireJob .history j hq)) _ h)

theorem timed_storeFrame (slot : Fin 4) (w : Window) (tick : Nat) (codes : List SampleCode) {p : Part} (h : p.Timed) :
    (storeFrame slot w tick codes p).Timed := by
  rw [storeFrame_frame]
  exact h

theorem timed_copyFrame (slot : Fin 4) {p : Part} (h : p.Timed) : (copyFrame slot p).Timed := by
  rw [copyFrame_frame]
  exact h

theorem timed_endCopy (slot : Fin 4) {p : Part} (h : p.Timed) : (endCopy slot p).Timed := by
  unfold endCopy
  repeat' split
  all_goals exact h

theorem timed_copyBeforeLoss (tick : Nat) (slot : Fin 4) {p : Part} (h : p.Timed) : (copyBeforeLoss tick slot p).Timed := by
  unfold copyBeforeLoss
  split
  · split
    · exact timed_copyFrame slot h
    · exact h
  · exact h

theorem timed_liveTick (tick : Nat) (codes : Vector SampleCode 8) (slot : Fin 4) {p : Part} (h : p.Timed) :
    (liveTick tick codes slot p).Timed := by
  unfold liveTick
  split
  · split
    · dsimp only
      split
      · exact timed_storeFrame _ _ _ _ h
      · exact h
    · exact h
  · exact h

theorem trimChain_lanes (id : Nat) (p : Part) : (trimChain id p).lanes = p.lanes := by
  rcases trimChain_spec id p with ⟨-, h⟩ | ⟨r, -, h⟩ <;> rw [h]
  rfl

theorem lowerLocks_lanes (set : ChannelSet) (p : Part) : (lowerLocks set p).lanes = p.lanes := by
  rw [lowerLocks_frame]

theorem timed_sealRecord (slot : Fin 4) (w : Window) {p : Part} (h : p.Timed) : (sealRecord slot w p).Timed := by
  unfold sealRecord
  extract_lets trimmed lowered closed
  have htrimmed : trimmed.Timed := h.of_lanes (trimChain_lanes w.recordId (modifyRecord w.recordId (sealedRecord w) p))
  have hlowered : lowered.Timed := htrimmed.of_lanes (lowerLocks_lanes w.channels trimmed)
  clear_value lowered
  have hclosed : closed.Timed := hlowered
  split
  · exact timed_handOff _ _ (timed_postReport _ hclosed)
  · exact hclosed

theorem timed_sealWindow (completes : Bool) (slot : Fin 4) {p : Part} (h : p.Timed) : (sealWindow completes slot p).Timed := by
  unfold sealWindow
  split
  · rename_i w _
    have hsealed := timed_sealRecord slot w h
    refine timed_reexamine ?_
    split
    · exact timed_planDoneIfIdle _ hsealed
    · exact hsealed
  · exact h

theorem timed_sealEnded (slot : Fin 4) {p : Part} (h : p.Timed) : (sealEnded slot p).Timed := by
  unfold sealEnded
  split
  · split
    · exact timed_sealWindow true slot h
    · exact h
  · exact h

theorem timed_spanArrival (ch : Fin 8) {p : Part} (h : p.Timed) : (spanArrival ch p).Timed := by
  unfold spanArrival
  split
  · exact takeCode_induct (P := Part.Timed) (fun c f _ hq => timed_modifyChannel c f hq) (fun c _ hq => timed_modifyDetector c _ hq)
      (fun r _ hq => timed_postReport r hq) ch _ (timed_modifyChannel ch _ h)
  · exact h

theorem timed_settleSpans {p : Part} (h : p.Timed) : (settleSpans p).Timed :=
  timed_foldl (fun _ ch hq => timed_spanArrival ch hq) allChannels h

theorem timed_cancelPass (ch : Fin 8) {p : Part} (h : p.Timed) : (cancelPass ch p).Timed := by
  unfold cancelPass
  split
  · exact timed_postReport _ h
  · exact h

theorem timed_judgeDetectors (codes : Vector SampleCode 8) {p : Part} (h : p.Timed) : (judgeDetectors codes p).Timed := by
  refine timed_foldl (fun q ch hq => ?_) allChannels h
  split
  · exact timed_modifyDetector ch _ hq
  · exact hq

theorem timed_triggerTick (tick : Nat) (codes : Vector SampleCode 8) {p : Part} (h : p.Timed) : (triggerTick tick codes p).Timed := by
  have hread : (readLatches p).Timed := timed_foldl (fun _ l hq => timed_modifyLine l _ hq) allLines h
  have hjudged := timed_judgeDetectors codes hread
  unfold triggerTick
  generalize judgeDetectors codes (readLatches p) = q at hjudged
  extract_lets soft sources judged
  split
  · exact hjudged
  · exact hjudged

theorem timed_writeHistory (tick : Nat) (codes : Vector SampleCode 8) {p : Part} (h : p.Timed) : (writeHistory tick codes p).Timed := by
  refine timed_foldl (fun q ch hq => ?_) _ h
  exact hq

theorem timed_tickEvent (inputs : Vector Int 8) {p : Part} (h : p.Timed) : (tickEvent inputs p).Timed := by
  unfold tickEvent
  split
  · extract_lets tick settled codes copied written sampled triggered observed
    have hcopied : copied.Timed := timed_foldl (fun _ w hq => timed_copyBeforeLoss tick w hq) allSlots (timed_settleSpans h)
    have hwritten : written.Timed := timed_writeHistory tick codes hcopied
    clear_value written
    have hsampled : sampled.Timed := hwritten
    have hobserved : observed.Timed := timed_foldl (fun _ ch hq => timed_modifyChannel ch _ hq) _ (timed_triggerTick tick codes hsampled)
    exact timed_foldl (fun _ w hq => timed_liveTick tick codes w hq) allSlots hobserved
  · exact h

theorem timed_stopSampler {p : Part} (h : p.Timed) : (stopSampler p).Timed := by
  unfold stopSampler
  extract_lets sampler cleared expired closed halted
  have hcleared : cleared.Timed :=
    timed_foldl (fun _ l hq => timed_modifyLine l _ hq) allLines (p := { p with smp := { sampler with running := false } }) h
  have hexpired : expired.Timed := timed_foldl (fun _ j hq => timed_expireJob .samplingStopped j hq) p.jobs hcleared
  have hclosed : closed.Timed := timed_foldl (fun _ w hq => timed_sealWindow false w hq) allSlots hexpired
  have hhalted : halted.Timed := by
    refine timed_foldl (fun q i hq => ?_) allPlans hclosed
    split
    · exact timed_haltPlan i .samplingStopped 0 hq
    · exact hq
  exact timed_foldl (fun _ ch hq => timed_cancelPass ch hq) allChannels hhalted

theorem timed_startSampler {p : Part} (h : p.Timed) : (startSampler p).Timed := by
  unfold startSampler
  extract_lets settled sampler emptied started unknown cleared
  have hsettled : settled.Timed := timed_settleSpans h
  clear_value settled
  have hemptied : emptied.Timed := hsettled
  have hstarted : started.Timed := timed_foldl (fun _ ch hq => timed_modifyChannel ch _ hq) allChannels hemptied
  have hunknown : unknown.Timed := timed_foldl (fun _ ch hq => timed_modifyDetector ch _ hq) allChannels hstarted
  have hcleared : cleared.Timed := timed_foldl (fun _ l hq => timed_modifyLine l _ hq) allLines hunknown
  clear_value cleared
  exact hcleared

theorem timed_judgeOffer (o : Offer) {p : Part} (h : p.Timed) : (judgeOffer o p).part.Timed := by
  refine List.foldlRecOn (motive := fun acc : Judged => acc.part.Timed) allPlans (judgePlan o) h (fun acc hacc i _ => ?_)
  unfold judgePlan
  split
  · exact hacc
  · split
    · exact hacc
    · rename_i reason _
      cases reason <;> exact timed_postReport _ hacc
    · exact hacc

/-! ### Commands -/

theorem timed_flush {p : Part} (h : p.Timed) : (flush p).Timed := by
  unfold flush
  extract_lets emptied plans lanes
  have hemptied : emptied.Timed := h
  have hplans : plans.Timed := timed_foldl (fun _ i hq => timed_modifyPlan i _ hq) allPlans hemptied
  have hlanes : lanes.Timed := timed_modifyLane (timed_modifyLane hplans (stopped_flushedLane _).timed) (stopped_flushedLane _).timed
  exact timed_foldl (fun _ c hq => timed_modifyChannel c _ hq) allChannels hlanes

theorem timed_stopAbort (i : Fin 8) {p : Part} (h : p.Timed) : (stopAbort i p).Timed := by
  unfold stopAbort
  extract_lets removed q
  have hq : q.Timed := h
  split
  · exact timed_reexamine (timed_haltPlan _ _ _ (timed_sealWindow false _ hq))
  · split
    · exact timed_haltPlan _ _ _ hq
    · exact timed_reexamine (timed_haltPlan _ _ _ hq)

theorem timed_stopGraceful (i : Fin 8) {p : Part} (h : p.Timed) : (stopGraceful i p).Timed := by
  unfold stopGraceful
  split
  · exact timed_planDoneIfIdle i h
  · exact h

theorem timed_runSamplingSet (rate : Byte) (channels : BitVec 16) {p : Part} (h : p.Timed) : (runSamplingSet rate channels p).1.Timed := by
  unfold runSamplingSet
  repeat' split
  all_goals exact h

theorem timed_runSamplingStart {p : Part} (h : p.Timed) : (runSamplingStart p).1.Timed := by
  unfold runSamplingStart
  split
  · exact h
  · rw [taken_fst]
    exact timed_startSampler h

theorem timed_runSamplingStop {p : Part} (h : p.Timed) : (runSamplingStop p).1.Timed := by
  unfold runSamplingStop
  split
  · rw [takenInTime_fst]
    exact timed_stopSampler h
  · exact h

theorem timed_runRangeSet (channel range : Byte) {p : Part} (h : p.Timed) : (runRangeSet channel range p).1.Timed := by
  unfold runRangeSet
  split
  · exact h
  · rename_i ch _
    have hset : (setRange ch range.toNat p).Timed :=
      timed_modifyDetector ch _ (timed_modifyChannel ch _ (timed_spanArrival ch h))
    split
    · exact h
    · split
      · exact h
      · split
        · exact h
        · split
          · exact h
          · exact hset

theorem timed_runRangeMode (channel mode : Byte) {p : Part} (h : p.Timed) : (runRangeMode channel mode p).1.Timed := by
  unfold runRangeMode
  split
  · split
    · exact h
    · exact timed_modifyChannel _ _ (timed_cancelPass _ h)
  · exact h

theorem timed_runExtlineSet (line enabled edge : Byte) {p : Part} (h : p.Timed) : (runExtlineSet line enabled edge p).1.Timed := by
  unfold runExtlineSet
  split <;> exact h

theorem timed_runDetectorSet (channel enabled : Byte) (threshold hysteresis : BitVec 16) (direction : Byte) {p : Part} (h : p.Timed) :
    (runDetectorSet channel enabled threshold hysteresis direction p).1.Timed := by
  unfold runDetectorSet
  repeat' split
  all_goals exact h

theorem timed_runTrigger (mask : Byte) {p : Part} (h : p.Timed) : (runTrigger mask p).1.Timed := by
  unfold runTrigger
  repeat' split
  all_goals exact h

theorem timed_runPlanDefine (plan : Byte) (args : PlanArgs) {p : Part} (h : p.Timed) : (runPlanDefine plan args p).1.Timed := by
  unfold runPlanDefine
  repeat' split
  all_goals exact h

theorem timed_runPlanClear (plan : Byte) {p : Part} (h : p.Timed) : (runPlanClear plan p).1.Timed := by
  unfold runPlanClear
  repeat' split
  all_goals exact h

theorem timed_runPlanStart (plan : Byte) {p : Part} (h : p.Timed) : (runPlanStart plan p).1.Timed := by
  unfold runPlanStart
  repeat' split
  all_goals exact h

theorem timed_runPlanStop (plan mode : Byte) {p : Part} (h : p.Timed) : (runPlanStop plan mode p).1.Timed := by
  unfold runPlanStop
  split
  · split
    · exact timed_stopGraceful _ h
    · exact h
  · split
    · exact timed_stopAbort _ h
    · exact h
  · exact h

theorem timed_runReset (mode : Byte) {p : Part} (h : p.Timed) : (runReset mode p).1.Timed := by
  unfold runReset
  split
  · exact h
  · exact timed_flush h
  · exact h

theorem timed_runRecordDiscard (id : BitVec 16) {p : Part} (h : p.Timed) : (runRecordDiscard id p).1.Timed := by
  unfold runRecordDiscard
  split
  · exact h
  · rename_i r _
    split
    · exact h
    · have hwithdrawn : (withdrawQueued r.lane r.id p).Timed := timed_modifyLane h ((h _).same rfl rfl rfl)
      exact timed_freeAndReexamine r.id hwithdrawn
    · exact timed_freeAndReexamine r.id (timed_abandonRecord r.lane r.id h)
    · exact timed_freeAndReexamine r.id h

theorem timed_runRecordRelease (id : BitVec 16) {p : Part} (h : p.Timed) : (runRecordRelease id p).1.Timed := by
  unfold runRecordRelease
  split
  · exact h
  · split
    · exact timed_freeAndReexamine _ h
    · exact h

theorem timed_runRecordReplay (id : BitVec 16) {p : Part} (h : p.Timed) : (runRecordReplay id p).1.Timed := by
  unfold runRecordReplay
  split
  · exact h
  · rename_i r _
    split
    · exact timed_handOff _ _ (p := modifyRecord r.id replayedRecord p) h
    · exact h

theorem timed_runLaneSet (lane k : Byte) (ackTimeout backoff : BitVec 16) (retryLimit : Byte) {p : Part} (h : p.Timed) :
    (runLaneSet lane k ackTimeout backoff retryLimit p).1.Timed := by
  unfold runLaneSet
  split
  · split
    · exact timed_modifyLane h ((h _).same rfl rfl rfl)
    · exact h
  · exact h

theorem timed_runLaneClearHalt (lane : Byte) {p : Part} (h : p.Timed) : (runLaneClearHalt lane p).1.Timed := by
  unfold runLaneClearHalt
  split
  · exact h
  · split
    · rename_i hhalted
      exact timed_clearHalt _ h hhalted
    · exact h

theorem timed_runCommand (c : Command) {p : Part} (h : p.Timed) : (runCommand c p).1.Timed := by
  cases c with
  | inquire => exact h
  | status => exact h
  | reset mode => exact timed_runReset mode h
  | samplingSet rate channels => exact timed_runSamplingSet rate channels h
  | samplingStart => exact timed_runSamplingStart h
  | samplingStop => exact timed_runSamplingStop h
  | rangeSet channel range => exact timed_runRangeSet channel range h
  | rangeMode channel mode => exact timed_runRangeMode channel mode h
  | channelGet channel => exact (runChannelGet_fst channel p).symm ▸ h
  | extlineSet line enabled edge => exact timed_runExtlineSet line enabled edge h
  | detectorSet channel enabled threshold hysteresis direction => exact timed_runDetectorSet _ _ _ _ _ h
  | trigger mask => exact timed_runTrigger mask h
  | planDefine plan definition => exact timed_runPlanDefine plan definition h
  | planClear plan => exact timed_runPlanClear plan h
  | planStart plan => exact timed_runPlanStart plan h
  | planStop plan mode => exact timed_runPlanStop plan mode h
  | planGet plan => exact (runPlanGet_fst plan p).symm ▸ h
  | recordList => exact h
  | recordDiscard id => exact timed_runRecordDiscard id h
  | recordRelease id => exact timed_runRecordRelease id h
  | recordReplay id => exact timed_runRecordReplay id h
  | laneSet lane k ackTimeout backoff retryLimit => exact timed_runLaneSet _ _ _ _ _ h
  | laneClearHalt lane => exact timed_runLaneClearHalt lane h
  | laneGet lane => exact (runLaneGet_fst lane p).symm ▸ h

/-! ### Answers, admissions and frames -/

theorem answerHead_lanes (status : Status) (results : List Byte) (p : Part) : (answerHead status results p).lanes = p.lanes := by
  unfold answerHead
  split <;> rfl

theorem timed_answerHead (status : Status) (results : List Byte) {p : Part} (h : p.Timed) : (answerHead status results p).Timed :=
  h.of_lanes (answerHead_lanes status results p)

theorem timed_answerReset {p : Part} (h : p.Timed) : (answerReset p).Timed := by
  unfold answerReset
  split <;> exact h

theorem timed_applyReply {x : Part × Reply} (h : x.1.Timed) : (applyReply x).Timed := by
  obtain ⟨p, reply⟩ := x
  cases reply with
  | done status results => exact timed_answerHead status results h
  | waits => exact h
  | takesTime => exact h
  | resets => exact timed_answerReset h

theorem timed_runPayload (payload : List Byte) {p : Part} (h : p.Timed) : (runPayload payload p).1.Timed := by
  unfold runPayload
  split
  · exact h
  · exact h
  · exact timed_runCommand _ h

theorem timed_drain {p : Part} (h : p.Timed) : (drain p).Timed :=
  drain_induct (P := Part.Timed) (fun c _ _ _ _ hq => timed_applyReply (timed_runPayload c.payload hq)) h

theorem timed_finishExecution {p : Part} (h : p.Timed) : (finishExecution p).Timed :=
  timed_drain (timed_answerHead .ok [] (p := { p with lnk := { p.lnk with finishing := false } }) h)

theorem timed_endTrigger (status : Status) (results : List Byte) {p : Part} (h : p.Timed) : (endTrigger status results p).Timed :=
  timed_drain (timed_answerHead status results (p := { p with trg := { p.trg with run := none } }) h)

theorem timed_discardFrame (cause : LinkCause) (tag : Option Byte) {p : Part} (h : p.Timed) : (discardFrame cause tag p).Timed :=
  timed_postReport _ h

theorem timed_refuseFrame (tag : Byte) (payload : List Byte) (status : Status) {p : Part} (h : p.Timed) :
    (refuseFrame tag payload status p).Timed := by
  unfold refuseFrame
  split
  · exact h
  · exact timed_postReport _ h

theorem timed_takeCommand (tag : Byte) (payload : List Byte) {p : Part} (h : p.Timed) : (takeCommand tag payload p).Timed := by
  unfold takeCommand
  split
  · exact timed_refuseFrame _ _ _ h
  · split
    · exact timed_refuseFrame _ _ _ h
    · split
      · exact timed_refuseFrame _ _ _ h
      · exact timed_drain (p := { p with lnk := _ }) h

theorem timed_commandArrives (tag : Byte) (payload : List Byte) {p : Part} (h : p.Timed) : (commandArrives tag payload p).Timed :=
  timed_takeCommand tag payload (p := parserToHunt p) h

theorem timed_hostCommand (tag : Byte) (c : Command) {p : Part} (h : p.Timed) : (hostCommand tag c p).Timed :=
  timed_commandArrives tag (encodeCommand c) h

/-- The arbiter starts the DATA frame of a READY lane (R165). -/
theorem readyLane_state {p : Part} {l : Fin 2} {k : Packet} (h : readyLane p = some (l, k)) : p.lanes[l].state = .ready := by
  have hready : ∀ {ln : Lane} {packet : Packet}, readyPacket ln = some packet → ln.state = .ready := by
    intro ln packet hpacket
    by_contra hother
    rw [readyPacket, if_neg hother] at hpacket
    cases hpacket
  unfold readyLane at h
  split at h
  · rename_i packet hturn
    cases h
    exact hready hturn
  · obtain ⟨packet, hother, hpair⟩ := Option.map_eq_some_iff.1 h
    cases hpair
    exact hready hother

theorem timed_startFrame {p : Part} (h : p.Timed) : (startFrame p).Timed := by
  rcases startFrame_spec p with ⟨hs, -⟩ | ⟨r, rest, -, -, hs⟩ | ⟨q, rest, -, -, -, hs⟩ | ⟨l, k, -, -, -, hready, hs⟩ <;> rw [hs]
  · exact h
  · exact h
  · exact h
  · have hstarted : (startLane l k p).Timed :=
      timed_beginStaging l (timed_modifyLane h (timed_transmittedLane k (h l) (readyLane_state hready)))
    exact hstarted

theorem timed_announced {p : Part} (h : p.Timed) : (announced p).Timed := by
  intro l
  rw [announced_get]
  exact timed_announcedLane (h l)

theorem timed_arbitrated {p : Part} (h : p.Timed) : (arbitrated p).Timed :=
  timed_startFrame (timed_announced h)

theorem timed_partFound (lanes : Fin 2 → Bool) {p : Part} (h : p.Timed) : (partFound lanes p).Timed := by
  unfold partFound
  split
  · exact timed_announced h
  · exact timed_arbitrated h

theorem timed_startAfter (lanes : Fin 2 → Bool) (p : Part) {q : Part} (h : q.Timed) : (startAfter lanes p q).Timed := by
  unfold startAfter
  split
  · exact timed_arbitrated h
  · exact h

/-- A device reset stops every timer (R101). -/
theorem timed_deviceReset (cause : ResetCause) (pins : ResetPins) (p : Part) : (deviceReset cause pins p).Timed := by
  refine timed_postReport _ (fun l => ?_)
  have hlane : (Part.cleared pins p.history p.blocks).lanes[l] = Lane.reset := Vector.getElem_replicate _
  rw [hlane]
  exact Lane.Stopped.timed ⟨rfl, rfl⟩

theorem timed_completeFrame (pins : ResetPins) {p : Part} (h : p.Timed) : (completeFrame pins p).Timed := by
  unfold completeFrame
  split
  · split
    · unfold cargoArrived
      split
      · exact timed_deviceReset .command pins _
      · exact h
      · exact h
      · exact timed_completeLane _ (p := { p with lnk := _ }) h
    · exact h
  · exact h

theorem timed_frameStarts {p : Part} (h : p.Timed) : (frameStarts p).Timed := by
  unfold frameStarts
  split
  · exact timed_arbitrated (timed_finishExecution h)
  · exact h

/-! ### The parser, offers and time -/

theorem timed_judgeKind (kind tag : Byte) (payload : List Byte) {p : Part} (h : p.Timed) : (judgeKind kind tag payload p).Timed := by
  unfold judgeKind
  split
  · exact timed_commandArrives tag payload h
  · split
    · split
      · exact timed_ackArrives _ _ _ h
      · exact timed_discardFrame _ _ h
    · exact timed_discardFrame _ _ h

theorem timed_takeCheckByte (b : Byte) (x : Parser) {p : Part} (h : p.Timed) : (takeCheckByte b x p).Timed := by
  unfold takeCheckByte
  split
  · exact h
  · unfold judgeFrame
    split
    · split
      · exact timed_judgeKind _ _ _ h
      · exact timed_discardFrame _ _ h
    · exact timed_discardFrame _ _ h

theorem timed_takeLengthByte (b : Byte) (x : Parser) {p : Part} (h : p.Timed) : (takeLengthByte b x p).Timed := by
  unfold takeLengthByte
  split
  · exact h
  · split
    · exact h
    · exact timed_discardFrame _ _ h

theorem timed_parseByte (b : Byte) {p : Part} (h : p.Timed) : (parseByte b p).Timed := by
  unfold parseByte
  split
  · split <;> exact h
  · exact timed_takeLengthByte b _ h
  · exact h
  · exact timed_takeCheckByte b _ h

theorem timed_byteArrives (b : Byte) (pins : ResetPins) {p : Part} (h : p.Timed) : (byteArrives b pins p).Timed := by
  unfold byteArrives
  split
  · exact timed_parseByte b h
  · exact timed_completeFrame pins (timed_parseByte b (p := exchangeByte p) h)

theorem timed_gapExpires {p : Part} (h : p.Timed) : (gapExpires p).Timed := by
  unfold gapExpires
  split
  · split
    · exact h
    · exact timed_discardFrame _ _ h
  · exact h

theorem timed_csRises {p : Part} (h : p.Timed) : (csRises p).Timed := by
  unfold csRises
  split
  · split
    · exact h
    · exact timed_discardFrame _ _ h
  · exact h

theorem timed_handleOffer (o : Offer) {p : Part} (h : p.Timed) : (handleOffer o p).Timed := by
  unfold handleOffer
  extract_lets judged examined
  have hjudged : judged.part.Timed := timed_judgeOffer o h
  have hexamined : examined.Timed := by
    unfold examined
    split
    · exact hjudged
    · exact timed_reexamine hjudged
  split
  · exact timed_endTrigger _ _ hexamined
  · exact hexamined

theorem timed_takeOffer {p : Part} (h : p.Timed) : (takeOffer p).Timed := by
  unfold takeOffer
  split
  · exact h
  · exact timed_handleOffer _ (p := { p with trg := _ }) h

theorem timed_tickLimitStop {p : Part} (h : p.Timed) : (tickLimitStop p).Timed := by
  unfold tickLimitStop
  split
  · extract_lets stopped
    have hstopped : stopped.Timed := timed_postReport _ (timed_stopSampler h)
    split
    · exact timed_endTrigger _ _ hstopped
    · exact hstopped
  · exact h

theorem timed_gapMillisecond {p : Part} (h : p.Timed) : (gapMillisecond p).Timed := by
  unfold gapMillisecond
  split
  · split
    · exact h
    · split
      · exact timed_gapExpires h
      · exact h
  · exact h

theorem timed_elapse {p : Part} (h : p.Timed) : (elapse p).Timed := by
  unfold elapse
  split
  · exact timed_finishExecution h
  · exact timed_gapMillisecond (timed_laneMillisecond 1 (timed_laneMillisecond 0 h))

/-! ### Every step keeps the timers to their states -/

theorem timed_onPart {f : Part → Part} (hf : ∀ {p}, p.Timed → (f p).Timed) {s t : State} (h : onPart f s = .next t) (hs : s.part.Timed) :
    t.part.Timed := by
  rw [onPart_next h]
  exact hf hs

theorem timed_onEvent {f : Part → Part} (hf : ∀ {p}, p.Timed → (f p).Timed) {s t : State} (h : onEvent f s = .next t) (hs : s.part.Timed) :
    t.part.Timed :=
  timed_onPart (fun hp => hf (timed_arbitrated hp)) h hs

theorem timed_onMeeting {lanes : Fin 2 → Bool} {f : Part → Part} (hf : ∀ {p}, p.Timed → (f p).Timed) {s t : State}
    (h : onMeeting lanes f s = .next t) (hs : s.part.Timed) : t.part.Timed :=
  timed_onPart (fun {p} hp => timed_startAfter lanes p (hf (timed_partFound lanes hp))) h hs

theorem timed_exec {i : Instr} {s t : State} (h : exec i s = .next t) (hs : s.part.Timed) : t.part.Timed := by
  cases i with
  | powerOn pins => exact timed_onPart (fun {p} _ => timed_deviceReset .power pins p) h hs
  | resetPin pins => exact timed_onPart (fun {p} _ => timed_deviceReset .pin pins p) h hs
  | extEdge line level => exact timed_onEvent (f := fun p => modifyLine line (edgeOnLine p.smp.running level) p) (fun hp => hp) h hs
  | tickEvent inputs => exact timed_onEvent (timed_tickEvent inputs) h hs
  | spanEnd channel => exact timed_onEvent (timed_spanArrival channel) h hs
  | tickLimitStop => exact timed_onEvent timed_tickLimitStop h hs
  | offer => exact timed_onEvent timed_takeOffer h hs
  | jobExpiry => exact timed_onEvent timed_expireByHistory h hs
  | copyEnd slot => exact timed_onEvent (timed_endCopy slot) h hs
  | windowSeal slot => exact timed_onEvent (timed_sealEnded slot) h hs
  | stagingEnd lane buffer => exact timed_onEvent (timed_endStaging lane buffer) h hs
  | frameStart => exact timed_onEvent timed_frameStarts h hs
  | frameComplete pins => exact timed_onEvent (timed_completeFrame pins) h hs
  | ack lane seq verdict => exact timed_onMeeting (timed_ackArrives lane seq verdict) h hs
  | ackTimerExpiry lane => exact timed_onEvent (timed_ackExpiry lane) h hs
  | backoffTimerExpiry lane => exact timed_onEvent (timed_backoffExpiry lane) h hs
  | commandFrame tag payload => exact timed_onMeeting (timed_commandArrives tag payload) h hs
  | frameDiscard fault tag => exact timed_onEvent (timed_discardFrame _ tag) h hs
  | gapExpiry => exact timed_onEvent timed_gapExpires h hs
  | csRise => exact timed_onEvent timed_csRises h hs
  | unknownCommand tag payload => exact timed_onMeeting (timed_commandArrives tag payload) h hs
  | resetFlush tag => exact timed_onMeeting (timed_hostCommand tag _) h hs
  | recordDiscard tag id => exact timed_onMeeting (timed_hostCommand tag _) h hs
  | inboundByte arrival => exact timed_onMeeting (timed_byteArrives arrival.value arrival.pins) h hs
  | catchUpCopyFrame slot => exact timed_onEvent (timed_copyFrame slot) h hs
  | _ => exact timed_onEvent (timed_hostCommand _ _) h hs

/-- Settles O57: a timer starts only in the change of a lane that moves it to the timer's state, and every change that leaves the state stops it. -/
theorem everyStepKeepsTimersInTheirStates : Obligations.EveryStepKeepsTimersInTheirStates := by
  intro s t hstep hs
  rw [laneTimersSound_iff] at hs ⊢
  unfold step at hstep
  split at hstep
  · rename_i c rest _
    exact timed_exec (s := { s with pending := rest }) hstep hs
  · exact timed_onEvent timed_elapse hstep hs

end Sys2Proof.Machine
end

section
/-!
SUPPORT. Retries, holds, halts and stale ACKs (R103 to R110, R115), and the expiry of the lane timers (R111, R112): the retry of an AWAITING lane
written out, the other verdicts of an ACK, and when a verdict is stale.
-/

namespace Sys2Proof.Machine

/-! ### A retry (R107) -/

/-- A lane whose retry resends its packet (R107). -/
def retriedLane (ln : Lane) : Lane :=
  { ln with state := .ready, retries := ln.retries + 1, ackTimer := none }

/-- A lane whose retry is one more than its limit (R107, R115). -/
def overRetriedLane (ln : Lane) : Lane :=
  { ln with
    state := .halted, halt := some .retryLimit, haltNoted := false, retries := ln.retries + 1, ackTimer := none, backoffTimer := none }

/-- A retry resends up to the retry limit and then halts the lane, its report naming the count that passed the limit (R107, R109). -/
theorem retryLane_eq (l : Fin 2) (p : Part) :
    retryLane l p =
      if p.lanes[l].config.retryLimit < p.lanes[l].retries + 1 then
        postReport (.laneHalted l .retryLimit p.lanes[l].seq (awaitingName p.lanes[l]) (p.lanes[l].retries + 1)) (modifyLane l overRetriedLane p)
      else modifyLane l retriedLane p := by
  simp only [retryLane, haltLane, modifyLane_get_self, modifyLane_modifyLane]
  rfl

/-! ### The expiry of a timer (R111, R112) -/

theorem ackExpiry_runs {l : Fin 2} {p : Part} (hstate : p.lanes[l].state = .awaiting) (hruns : p.lanes[l].ackTimer ≠ none) :
    ackExpiry l p = retryLane l p :=
  if_pos ⟨hstate, Option.isSome_iff_ne_none.2 hruns⟩

theorem ackExpiry_stopped {l : Fin 2} {p : Part} (h : p.lanes[l].state ≠ .awaiting ∨ p.lanes[l].ackTimer = none) : ackExpiry l p = p :=
  if_neg fun hexpires => h.elim (fun hstate => hstate hexpires.1) (Option.isSome_iff_ne_none.1 hexpires.2)

theorem backoffExpiry_runs {l : Fin 2} {p : Part} (hstate : p.lanes[l].state = .backoff) (hruns : p.lanes[l].backoffTimer ≠ none) :
    backoffExpiry l p = modifyLane l (fun ln => { ln with state := .ready, backoffTimer := none }) p :=
  if_pos ⟨hstate, Option.isSome_iff_ne_none.2 hruns⟩

theorem backoffExpiry_stopped {l : Fin 2} {p : Part} (h : p.lanes[l].state ≠ .backoff ∨ p.lanes[l].backoffTimer = none) :
    backoffExpiry l p = p :=
  if_neg fun hexpires => h.elim (fun hstate => hstate hexpires.1) (Option.isSome_iff_ne_none.1 hexpires.2)

/-- Settles O39: each expiry by whether its timer runs in its state; that of the ack timer is a retry. -/
theorem timerExpiryRetriesOrResends : Obligations.TimerExpiryRetriesOrResends := by
  intro s p l hp ln
  subst hp
  refine ⟨fun hstate hruns => ?_, fun hstopped => ?_, fun hstate hruns => ?_, fun hstopped => ?_⟩
  · refine (onEvent_eq _ s).trans ?_
    rw [ackExpiry_runs hstate hruns, retryLane_eq]
    rfl
  · exact (onEvent_eq _ s).trans (by rw [ackExpiry_stopped hstopped])
  · refine (onEvent_eq _ s).trans ?_
    rw [backoffExpiry_runs hstate hruns]
    rfl
  · exact (onEvent_eq _ s).trans (by rw [backoffExpiry_stopped hstopped])

/-! ### The verdict of an ACK (R175) -/

/-- Bits 0 and 1 of the verdict byte, read as a number (R175). -/
theorem ackVerdict_eq (b : Byte) :
    ackVerdict b = if b.toNat % 4 = 0 then .accept else if b.toNat % 4 = 1 then .retry else if b.toNat % 4 = 2 then .hold else .halt := by
  have hbits : b.toNat % 4 = b.toNat / 2 % 2 * 2 + b.toNat % 2 := by omega
  rw [hbits, ackVerdict, getLsbD_zero_eq, getLsbD_one_eq]
  rcases Nat.mod_two_eq_zero_or_one b.toNat with hlow | hlow <;>
    rcases Nat.mod_two_eq_zero_or_one (b.toNat / 2) with hhigh | hhigh <;> rw [hlow, hhigh] <;> rfl

theorem ackVerdict_retry {b : Byte} (h : b.toNat % 4 = 1) : ackVerdict b = .retry := by
  rw [ackVerdict_eq, h]
  rfl

theorem ackVerdict_hold {b : Byte} (h : b.toNat % 4 = 2) : ackVerdict b = .hold := by
  rw [ackVerdict_eq, h]
  rfl

theorem ackVerdict_halt {b : Byte} (h : b.toNat % 4 = 3) : ackVerdict b = .halt := by
  rw [ackVerdict_eq, h]
  rfl

/-! ### The step of an ACK (R103, R105) -/

/-- The step of an ACK that matches the awaiting packet of a live record: its verdict's effect in the lane's state (R103, R105). -/
theorem exec_ack_matched {s : State} {p : Part} {lane seq : Byte} (verdict : Byte) {l : Fin 2} {a : Awaiting}
    (hp : partFound (ackMeets lane) s.part = p) (hl : l.val = lane.toNat % 2) (ha : p.lanes[l].awaiting = some a)
    (hlive : findRecord p a.recordId ≠ none) (hseq : p.lanes[l].seq.val = seq.toNat % 2) :
    exec (.ack lane seq verdict) s =
      .next (s.withPart (startAfter (ackMeets lane) s.part (verdictEffect l a (ackVerdict verdict) (parserToHunt p)))) := by
  have htaken : ackArrives lane seq verdict p = verdictEffect l a (ackVerdict verdict) (parserToHunt p) := by
    have hmatch : matchedPacket (parserToHunt p) l p.lanes[l].seq = some a := matchedPacket_eq (p := parserToHunt p) ha hlive
    simp only [ackArrives, takeAck, ackLane_eq hl, ackSeq_eq hseq, hmatch]
  rw [← htaken, ← hp]
  exact onMeeting_eq _ _ s

/-- An ACK matches nothing where no packet awaits, its record is gone, or the sequence bits differ (R103). -/
theorem matchedPacket_eq_none {p : Part} {l : Fin 2} {seq : Byte}
    (h : ¬ ∃ a : Awaiting, p.lanes[l].awaiting = some a ∧ findRecord p a.recordId ≠ none ∧ p.lanes[l].seq.val = seq.toNat % 2) :
    matchedPacket p l (ackSeq seq) = none := by
  have hbit : (ackSeq seq).val = seq.toNat % 2 :=
    congrArg Fin.val (ackSeq_eq (s := ⟨seq.toNat % 2, Nat.mod_lt _ (by decide)⟩) rfl)
  unfold matchedPacket
  split
  · rename_i a ha
    refine if_neg fun hmatch => h ⟨a, ha, Option.isSome_iff_ne_none.1 hmatch.1, ?_⟩
    rw [hmatch.2, hbit]
  · rfl

/-- The step of an ACK that matches no awaiting packet (R104). -/
theorem exec_ack_unmatched {s : State} {p : Part} {lane seq : Byte} (verdict : Byte) {l : Fin 2}
    (hp : partFound (ackMeets lane) s.part = p) (hl : l.val = lane.toNat % 2)
    (h : ¬ ∃ a : Awaiting, p.lanes[l].awaiting = some a ∧ findRecord p a.recordId ≠ none ∧ p.lanes[l].seq.val = seq.toNat % 2) :
    exec (.ack lane seq verdict) s = .next (s.withPart (startAfter (ackMeets lane) s.part (staleAck l (parserToHunt p)))) := by
  have htaken : ackArrives lane seq verdict p = staleAck l (parserToHunt p) := by
    have hnone := matchedPacket_eq_none (p := parserToHunt p) h
    simp only [ackArrives, takeAck, ackLane_eq hl, hnone]
  rw [← htaken, ← hp]
  exact onMeeting_eq _ _ s

/-! ### The verdicts but ACCEPT in each lane state (R105) -/

section Verdicts

variable {p : Part} {l : Fin 2} (a : Awaiting)

theorem verdictEffect_retry (h : p.lanes[l].state = .awaiting) : verdictEffect l a .retry p = retryLane l p := by
  simp only [verdictEffect, h]

theorem verdictEffect_hold (h : p.lanes[l].state = .awaiting) : verdictEffect l a .hold p = modifyLane l heldLane p := by
  simp only [verdictEffect, h]

theorem verdictEffect_halt (h : p.lanes[l].state = .awaiting ∨ p.lanes[l].state = .backoff ∨ p.lanes[l].state = .ready) :
    verdictEffect l a .halt p = haltLane l .host p := by
  rcases h with h | h | h <;> simp only [verdictEffect, h]

/-- A halt that meets a copy in flight is noted (R110). -/
theorem verdictEffect_haltNoted (h : p.lanes[l].state = .sending) (hnoted : p.lanes[l].haltNoted = false) :
    verdictEffect l a .halt p = modifyLane l (fun ln => { ln with haltNoted := true }) p := by
  simp only [verdictEffect, h, hnoted, Bool.false_eq_true, if_false]

/-- The verdicts that a lane's state does not take: any in HALTED, RETRY and HOLD outside AWAITING, and any in SENDING once a halt is noted (R105,
R110). -/
theorem verdictEffect_stale {v : Verdict}
    (h : p.lanes[l].state = .halted ∨
      ((p.lanes[l].state = .backoff ∨ p.lanes[l].state = .ready ∨ p.lanes[l].state = .sending) ∧ (v = .retry ∨ v = .hold)) ∨
      (p.lanes[l].state = .sending ∧ p.lanes[l].haltNoted = true)) :
    verdictEffect l a v p = staleAck l p := by
  rcases h with h | ⟨h | h | h, rfl | rfl⟩ | ⟨h, hnoted⟩
  case inr.inr => cases v <;> simp only [verdictEffect, h, hnoted, if_true]
  all_goals simp only [verdictEffect, h]

end Verdicts

/-- Settles O38: a matching ACK by its verdict and its lane's state; a stale one, whether it matches nothing or its verdict is not admitted. -/
theorem retryHoldHaltAndStaleVerdicts : Obligations.RetryHoldHaltAndStaleVerdicts := by
  constructor
  · intro s p lane seq verdict l a hp hl ln base ha hlive hseq
    have hstep := exec_ack_matched verdict hp hl ha hlive hseq
    have hname : awaitingName ln = some (a.recordId, a.index) := congrArg (Option.map _) ha
    refine ⟨fun hstate hv => hstep.trans ?_, fun hstate hv => hstep.trans ?_, fun hstate hv => hstep.trans ?_,
      fun hstate hnoted hv => hstep.trans ?_⟩
    · rw [ackVerdict_retry hv, verdictEffect_retry (p := parserToHunt p) a hstate, retryLane_eq, ← hname]
      rfl
    · rw [ackVerdict_hold hv, verdictEffect_hold (p := parserToHunt p) a hstate]
      rfl
    · rw [ackVerdict_halt hv, verdictEffect_halt (p := parserToHunt p) a hstate, ← hname]
      rfl
    · rw [ackVerdict_halt hv, verdictEffect_haltNoted (p := parserToHunt p) a hstate hnoted]
      rfl
  · intro s p lane seq verdict l hp hl ln hstale
    by_cases hmatch : ∃ a : Awaiting, ln.awaiting = some a ∧ findRecord p a.recordId ≠ none ∧ ln.seq.val = seq.toNat % 2
    · obtain ⟨a, ha, hlive, hseq⟩ := id hmatch
      have hrefused := (hstale.resolve_left (not_not_intro hmatch)).imp_right
        (Or.imp_left (And.imp_right (Or.imp ackVerdict_retry ackVerdict_hold)))
      refine (exec_ack_matched verdict hp hl ha hlive hseq).trans ?_
      rw [verdictEffect_stale (p := parserToHunt p) a hrefused]
      rfl
    · exact exec_ack_unmatched verdict hp hl hmatch

end Sys2Proof.Machine
end

section
/-!
SUPPORT. LANE_CLEAR_HALT (R116, R117): where the resume packet lies, the exchange of the buffers, the packet dropped, and the lane that it leaves.
-/

namespace Sys2Proof.Machine

/-! ### The resume packet (R117) -/

/-- The resume packet lies in B1: the awaiting packet does, or with none awaiting the send buffer is B1 and not EMPTY (R117). -/
def resumesFromB1 (ln : Lane) : Bool :=
  match ln.awaiting with
  | some a => decide (a.buffer = 1)
  | none => decide (ln.seq = 1 ∧ ln.buffers[1] ≠ .empty)

theorem resumeBuffer_eq_one (ln : Lane) : resumeBuffer ln = some 1 ↔ resumesFromB1 ln = true := by
  unfold resumeBuffer resumesFromB1
  cases ln.awaiting with
  | some a => simp
  | none =>
    dsimp only
    rw [decide_eq_true_iff]
    constructor
    · intro h
      split at h
      · cases h
      · rename_i hholds
        obtain hseq : ln.seq = 1 := Option.some.inj h
        simp only [hseq] at hholds
        exact ⟨hseq, hholds⟩
    · rintro ⟨hseq, hholds⟩
      simp only [hseq]
      exact if_neg hholds

/-- The two buffers of a lane, B0 and B1. -/
theorem buffers_pair (v : Vector Buffer 2) : v = #v[v[0], v[1]] := by
  refine Vector.ext fun i hi => ?_
  obtain rfl | rfl : i = 0 ∨ i = 1 := by omega
  · rfl
  · rfl

/-- The content of B0 after the exchange: the resume packet, if there is one. -/
def resumeContent (ln : Lane) : Buffer :=
  if resumesFromB1 ln then ln.buffers[1] else ln.buffers[0]

/-- The content of B1 after the exchange, which is dropped. -/
def droppedContent (ln : Lane) : Buffer :=
  if resumesFromB1 ln then ln.buffers[0] else ln.buffers[1]

/-! ### The lane that LANE_CLEAR_HALT leaves -/

/-- After the exchange an awaiting packet is in B0, whether the buffers changed names or not (R117). -/
theorem exchangedLane_eq (ln : Lane) : exchangedLane ln = { ln with
    buffers := #v[resumeContent ln, droppedContent ln]
    awaiting := ln.awaiting.map (fun a => { a with buffer := 0 }) } := by
  unfold exchangedLane resumeContent droppedContent
  by_cases hB1 : resumesFromB1 ln = true
  · rw [if_pos ((resumeBuffer_eq_one ln).2 hB1), if_pos hB1, if_pos hB1]
  · rw [if_neg (fun h => hB1 ((resumeBuffer_eq_one ln).1 h)), if_neg hB1, if_neg hB1, ← buffers_pair]
    have hB0 : ln.awaiting.map (fun a => { a with buffer := 0 }) = ln.awaiting := by
      cases ha : ln.awaiting with
      | none => rfl
      | some a =>
        have hbuffer : a.buffer = 0 := by
          have hne : a.buffer ≠ 1 := by simpa [resumesFromB1, ha] using hB1
          omega
        rw [Option.map_some, ← hbuffer]
    rw [hB0]

/-- The current record's next staging index after a packet is dropped: that of the packet, if it is of that record (R117). -/
def restagedFrom (dropped : Option Packet) (current : Option Current) : Option Current :=
  match dropped with
  | some k => current.map (fun c => if c.recordId = k.recordId then { c with next := k.index } else c)
  | none => current

/-- B1 is EMPTY after the drop, also where it was EMPTY before (R117). -/
theorem droppedSpare_eq (ln : Lane) : droppedSpare ln = { ln with
    buffers := #v[ln.buffers[0], .empty], current := restagedFrom ln.buffers[1].packet ln.current } := by
  have hpair := buffers_pair ln.buffers
  unfold droppedSpare
  cases hB1 : ln.buffers[1] with
  | empty =>
    rw [hB1] at hpair
    rw [← hpair]
    rfl
  | filling k =>
    rw [hpair]
    rfl
  | holding k =>
    rw [hpair]
    rfl

/-- The lane after LANE_CLEAR_HALT, field by field (R116, R117). -/
theorem clearedLane_eq (ln : Lane) : clearedLane ln = { ln with
    state := if (resumeContent ln).holds then .ready else .idle
    halt := none
    seq := 0
    resync := true
    retries := 0
    buffers := #v[resumeContent ln, .empty]
    awaiting := ln.awaiting.map (fun a => { a with buffer := 0 })
    current := restagedFrom (droppedContent ln).packet ln.current } := by
  rw [clearedLane, exchangedLane_eq, droppedSpare_eq]
  rfl

/-! ### The command -/

theorem laneArg_of_lane {lane : Byte} {l : Fin 2} (h : l.val = lane.toNat) : laneArg lane = some l := by
  have hlt : lane.toNat < 2 := h ▸ l.isLt
  exact (dif_pos hlt).trans (congrArg some (Fin.ext h.symm))

theorem clearHalt_holding (l : Fin 2) (tag : Byte) (payload : List Byte) (p : Part) :
    clearHalt l (p.holding tag payload) = (clearHalt l p).holding tag payload :=
  beginStaging_holding tag payload (modifyLane l clearedLane p) l

theorem clearHalt_intake (l : Fin 2) (p : Part) : (clearHalt l p).lnk.intake = p.lnk.intake := by
  rw [clearHalt, beginStaging_frame]
  rfl

/-- LANE_CLEAR_HALT of a lane by its state (R116). -/
theorem runLaneClearHalt_reply {p : Part} (hin : p.lnk.intake = []) (tag : Byte) (payload : List Byte) {lane : Byte} {l : Fin 2}
    (hlane : laneArg lane = some l) :
    applyReply (runLaneClearHalt lane (p.holding tag payload)) =
      if p.lanes[l].state = .halted then Part.answered tag (payloadCode payload) .ok [] (clearHalt l p)
      else Part.answered tag (payloadCode payload) .badState [] p := by
  have hlanes : (p.holding tag payload).lanes = p.lanes := rfl
  simp only [runLaneClearHalt, hlane, hlanes, clearHalt_holding]
  split
  · exact taken_holding ((clearHalt_intake l p).trans hin) tag payload
  · exact refuse_holding hin tag payload .badState

/-- Settles O35: a lane byte that names no lane, then the state of the lane, and for a HALTED one the lane that is left, field by field. -/
theorem laneClearHaltRestoresTheLane : Obligations.LaneClearHaltRestoresTheLane := by
  intro s p tag lane hp haccepts
  have hin : p.lnk.intake = [] := haccepts.2.1
  refine ⟨fun hnone => onEvent_command hp haccepts (.laneClearHalt lane) ?_, fun l hl => ?_⟩
  · have harg : laneArg lane = none := dif_neg (Nat.not_lt.2 hnone)
    rw [runCommand, runLaneClearHalt, harg]
    exact refuse_holding hin tag _ .badArg
  · have hreply := runLaneClearHalt_reply hin tag [0x51, lane] (laneArg_of_lane hl)
    refine ⟨fun hstate => onEvent_command hp haccepts (.laneClearHalt lane) (hreply.trans (if_neg hstate)),
      fun hstate => onEvent_command hp haccepts (.laneClearHalt lane) ((hreply.trans (if_pos hstate)).trans ?_)⟩
    have hcleared : modifyLane l clearedLane p = { p with lanes := p.lanes.set l.val (clearedLane p.lanes[l]) } := rfl
    rw [clearHalt, hcleared, clearedLane_eq]
    rfl

end Sys2Proof.Machine
end

section
/-!
SUPPORT. SAMPLING_SET and SAMPLING_START (R124, R130, R150): what RNG takes beside a command that holds the intake queue, the start event written out, and
the two statements.
-/

namespace Sys2Proof.Machine

/-! ### Changes of the part that RNG does not see (R138 to R146) -/

/-- RNG neither reads nor changes what `h` changes of the part: the two come to the same in either order. -/
structure ApartFromRange (h : Part → Part) : Prop where
  channels : ∀ p, (h p).channels = p.channels
  followingTick : ∀ p, followingTick (h p) = followingTick p
  modifyChannel : ∀ c f p, modifyChannel c f (h p) = h (modifyChannel c f p)
  detectorUnknown : ∀ c p, detectorUnknown c (h p) = h (detectorUnknown c p)
  postReport : ∀ r p, postReport r (h p) = h (postReport r p)

section Apart

variable {h : Part → Part} (happart : ApartFromRange h)
include happart

theorem applyRange_apart (ch : Fin 8) (range : Nat) (once : Bool) (p : Part) :
    applyRange ch range once (h p) = h (applyRange ch range once p) := by
  simp only [applyRange, happart.channels, happart.followingTick, happart.modifyChannel, happart.detectorUnknown, happart.postReport]

theorem endPass_apart (ch : Fin 8) (outcome : PassOutcome) (p : Part) : endPass ch outcome (h p) = h (endPass ch outcome p) := by
  simp only [endPass, happart.channels, happart.modifyChannel, happart.postReport]

theorem cancelPass_apart (ch : Fin 8) (p : Part) : cancelPass ch (h p) = h (cancelPass ch p) := by
  simp only [cancelPass, happart.channels, endPass_apart happart, apply_ite h]

theorem trackDecision_apart (ch : Fin 8) (d : SpanDecision) (p : Part) : trackDecision ch d (h p) = h (trackDecision ch d p) := by
  simp only [trackDecision, happart.channels]
  cases decidedRange p.channels[ch].range d with
  | none => rfl
  | some r => simp only [applyRange_apart happart, apply_ite h]

theorem onceDecision_apart (ch : Fin 8) (d : SpanDecision) (p : Part) : onceDecision ch d (h p) = h (onceDecision ch d p) := by
  simp only [onceDecision, happart.channels, happart.modifyChannel, apply_ite h]
  refine if_congr Iff.rfl ?_ rfl
  split
  · rename_i hkeep
    simp only [hkeep, endPass_apart happart]
  · rename_i r hmove
    simp only [hmove, applyRange_apart happart, endPass_apart happart, apply_ite h]

theorem endSpan_apart (ch : Fin 8) (p : Part) : endSpan ch (h p) = h (endSpan ch p) := by
  simp only [endSpan, happart.channels, happart.modifyChannel]
  cases p.channels[ch].mode with
  | manual => rfl
  | track => exact trackDecision_apart happart ch _ _
  | once => exact onceDecision_apart happart ch _ _

theorem spanArrival_apart (ch : Fin 8) (p : Part) : spanArrival ch (h p) = h (spanArrival ch p) := by
  simp only [spanArrival, takeCode, happart.channels, happart.modifyChannel]
  cases p.channels[ch].arriving with
  | none => rfl
  | some code => simp only [endSpan_apart happart, apply_ite h]

theorem settleSpans_apart (p : Part) : settleSpans (h p) = h (settleSpans p) :=
  List.foldl_hom h fun q ch => spanArrival_apart happart ch q

end Apart

/-- A command in the intake queue is nothing that RNG sees. -/
theorem apartFromRange_holding (tag : Byte) (payload : List Byte) : ApartFromRange (Part.holding tag payload) where
  channels _ := rfl
  followingTick _ := rfl
  modifyChannel _ _ _ := rfl
  detectorUnknown _ _ := rfl
  postReport r p := postReport_holding tag payload p r

/-- RNG, when it takes the codes on their way to it, changes of the link the reports and the lost count alone. -/
theorem settleSpans_lnk (p : Part) : (settleSpans p).lnk =
    { p.lnk with reports := (settleSpans p).lnk.reports, lost := (settleSpans p).lnk.lost } :=
  settleSpans_induct (P := fun q => q.lnk = { p.lnk with reports := q.lnk.reports, lost := q.lnk.lost }) (fun _ _ _ h => h) (fun _ _ h => h)
    (fun r q h => by
      rcases postReport_spec r q with ⟨-, hq⟩ | ⟨-, hq⟩ <;> rw [hq, h]) rfl

/-! ### One change for every entry -/

/-- Every entry of a vector changed, entry by entry. -/
theorem foldl_set_eq_map {α : Type} {n : Nat} (f : α → α) (v : Vector α n) :
    (List.finRange n).foldl (fun v (i : Fin n) => v.set i.val (f v[i])) v = v.map f := by
  have hentry : ∀ {l : List (Fin n)}, l.Nodup → ∀ (v : Vector α n) (k : Fin n),
      (l.foldl (fun v (i : Fin n) => v.set i.val (f v[i])) v)[k] = if k ∈ l then f v[k] else v[k] := by
    intro l
    induction l with
    | nil => exact fun _ _ _ => rfl
    | cons a l ih =>
      intro hl v k
      obtain ⟨ha, hl⟩ := List.nodup_cons.1 hl
      rw [List.foldl_cons, ih hl]
      by_cases hk : a = k
      · subst hk
        simp [ha]
      · have hother : (v.set a.val (f v[a]))[k] = v[k] := Vector.getElem_set_ne a.isLt k.isLt (fun e => hk (Fin.ext e))
        rw [hother]
        simp only [List.mem_cons, Ne.symm hk, false_or]
  refine Vector.ext fun i hi => ?_
  have h := hentry (List.nodup_finRange n) v ⟨i, hi⟩
  rw [if_pos (List.mem_finRange _)] at h
  exact h.trans (Vector.getElem_map f hi).symm

theorem modifyChannel_all (f : Channel → Channel) (p : Part) :
    allChannels.foldl (fun q c => modifyChannel c f q) p = { p with channels := p.channels.map f } :=
  (List.foldl_hom (fun v : Vector Channel 8 => { p with channels := v }) fun _ _ => rfl).trans
    (congrArg (fun v => { p with channels := v }) (foldl_set_eq_map f p.channels))

theorem modifyDetector_all (f : Detector → Detector) (p : Part) :
    allChannels.foldl (fun q c => modifyDetector c f q) p = { p with detectors := p.detectors.map f } :=
  (List.foldl_hom (fun v : Vector Detector 8 => { p with detectors := v }) fun _ _ => rfl).trans
    (congrArg (fun v => { p with detectors := v }) (foldl_set_eq_map f p.detectors))

theorem modifyLine_all (f : ExtLine → ExtLine) (p : Part) :
    allLines.foldl (fun q l => modifyLine l f q) p = { p with lines := p.lines.map f } :=
  (List.foldl_hom (fun v : Vector ExtLine 4 => { p with lines := v }) fun _ _ => rfl).trans
    (congrArg (fun v => { p with lines := v }) (foldl_set_eq_map f p.lines))

/-- Every line's latch cleared (R45). -/
theorem clearLatches_eq (p : Part) : clearLatches p = { p with lines := p.lines.map (fun x => { x with latch := false }) } :=
  modifyLine_all _ p

/-! ### SAMPLING_SET -/

/-- SAMPLING_SET's checks in their order, and its effect (R124). -/
theorem runSamplingSet_reply {p : Part} (hin : p.lnk.intake = []) (tag : Byte) (payload : List Byte) (rate : Byte) (channels : BitVec 16) :
    applyReply (runSamplingSet rate channels (p.holding tag payload)) =
      if 7 < rate.toNat then Part.answered tag (payloadCode payload) .badArg [] p
      else if channels = 0 ∨ 255 < channels.toNat then Part.answered tag (payloadCode payload) .badArg [] p
      else if p.smp.running = true then Part.answered tag (payloadCode payload) .busy [] p
      else Part.answered tag (payloadCode payload) .ok [] { p with
        smp := { p.smp with rateCode := rate.toNat, enabled := channels.extractLsb' 0 8 } } := by
  have hsmp : (p.holding tag payload).smp = p.smp := rfl
  unfold runSamplingSet
  rw [channelSetArg_eq, hsmp]
  split
  · exact refuse_holding hin tag payload .badArg
  · by_cases hset : channels = 0 ∨ 255 < channels.toNat
    · rw [if_pos hset, if_pos hset]
      exact refuse_holding hin tag payload .badArg
    · rw [if_neg hset, if_neg hset]
      dsimp only
      split
      · exact refuse_holding hin tag payload .busy
      · exact taken_holding (q := { p with smp := { p.smp with rateCode := rate.toNat, enabled := channels.extractLsb' 0 8 } }) hin tag payload

/-- Settles O12: the checks of R124 in their order. -/
theorem samplingSetWritesRateAndChannels : Obligations.SamplingSetWritesRateAndChannels :=
  fun _ _ tag rate channels hp haccepts =>
    onEvent_command hp haccepts (.samplingSet rate channels) (runSamplingSet_reply haccepts.2.1 tag _ rate channels)

/-! ### SAMPLING_START -/

/-- The start event (R130, R150, R45, R48, R57), on the part as RNG leaves it once it has taken the codes on their way to it. -/
theorem startSampler_eq (p : Part) : startSampler p = { settleSpans p with
    smp := { p.smp with running := true, tickCounter := 0, newest := none }
    fill := Vector.replicate 8 0
    channels := (settleSpans p).channels.map startChannel
    detectors := (settleSpans p).detectors.map (fun d => { d with state := .unknown })
    lines := p.lines.map (fun x => { x with latch := false })
    trg := { p.trg with offerCount := 0, lastOffer := none, offers := [] } } := by
  obtain ⟨hlines, htrg, hsmp⟩ := settleSpans_keeps p
  unfold startSampler
  simp only [modifyChannel_all, detectorUnknown, modifyDetector_all, clearLatches_eq, hlines, htrg, hsmp]

theorem startSampler_holding (tag : Byte) (payload : List Byte) (p : Part) :
    startSampler (p.holding tag payload) = (startSampler p).holding tag payload := by
  rw [startSampler_eq, startSampler_eq, settleSpans_apart (apartFromRange_holding tag payload)]
  generalize settleSpans p = q
  rfl

/-- Settles O13: a running Sampler refuses, and a stopped one takes the start event. -/
theorem samplingStartBeginsARun : Obligations.SamplingStartBeginsARun := by
  intro s p tag hp haccepts q
  refine onEvent_command hp haccepts .samplingStart ?_
  have hin : p.lnk.intake = [] := haccepts.2.1
  have hstarted : (startSampler p).lnk.intake = [] := by
    rw [startSampler_eq, settleSpans_lnk]
    exact hin
  have hsmp : (p.holding tag (encodeCommand .samplingStart)).smp = p.smp := rfl
  rw [runCommand, runSamplingStart, hsmp, startSampler_holding]
  split
  · exact refuse_holding hin tag _ .badState
  · refine (taken_holding hstarted tag _).trans ?_
    have hq : settleSpans p = q := rfl
    rw [startSampler_eq, hq]
    clear_value q
    rfl

end Sys2Proof.Machine
end

section
/-!
SUPPORT. The conversion of an input (R127), the codes written into history (R128), what a tick event makes of the rest of the part (R125), and the
statement about both.
-/

namespace Sys2Proof.Machine

/-! ### Conversion (R127) -/

theorem codeStep_pos (range : Nat) : 0 < codeStep range := by
  unfold codeStep
  positivity

/-- The full scale is 32,768 code steps (R127). -/
theorem fullScale_eq {range : Nat} (h : range ≤ 7) : fullScale range = 32768 * codeStep range := by
  have hexponent : 30 - range = 15 + (15 - range) := by omega
  rw [fullScale, codeStep, hexponent, pow_add]
  rfl

/-- A number of code steps within the code's values is the code's own value. -/
theorem toInt_ofInt_code {n : Int} (hlow : -32768 ≤ n) (hhigh : n ≤ 32767) : (BitVec.ofInt 16 n).toInt = n := by
  rw [BitVec.toInt_ofInt]
  exact Int.bmod_eq_of_le (by omega) (by omega)

/-- An input within the full scale lies in one code step, and converts to its number or to the number after it, which it does only if it is no whole
number of steps. -/
theorem convert_within {ch : Fin 8} {tick range : Nat} {input n : Int} (hrange : range ≤ 7) (hlow : -32768 ≤ n) (hhigh : n ≤ 32767)
    (hfrom : n * codeStep range ≤ input) (hto : input < (n + 1) * codeStep range) (hend : -(32768 * codeStep range) < input) :
    (convert ch tick range input).toInt = n ∨
      (n * codeStep range ≠ input ∧ (convert ch tick range input).toInt = min (n + 1) 32767) := by
  have hpos := codeStep_pos range
  have hscale := fullScale_eq hrange
  have hdiv : input / codeStep range = n := 
    Int.le_antisymm (Int.lt_add_one_iff.1 (Int.ediv_lt_of_lt_mul hpos hto)) (Int.le_ediv_of_mul_le hpos hfrom)
  have htop : ¬ fullScale range ≤ input := by nlinarith
  have hbottom : ¬ input ≤ -fullScale range := by rw [hscale]; omega
  unfold convert
  rw [if_neg htop, if_neg hbottom, toInt_ofInt_code (by unfold codeSteps; split <;> omega) (min_le_left _ _)]
  unfold codeSteps
  rw [hdiv]
  split
  · rename_i hup
    refine .inr ⟨fun heq => hup.1 ?_, min_comm _ _⟩
    rw [← heq]
    exact Int.mul_emod_left n (codeStep range)
  · exact .inl (min_eq_right hhigh)

/-- The conversion of an input, at the ends of the full scale, at a code step and between two (R127). -/
theorem convert_spec (ch : Fin 8) (tick range : Nat) (input : Int) (hrange : range ≤ 7) :
    let code := (convert ch tick range input).toInt
    (2 ^ (30 - range) ≤ input → code = 32767) ∧ (input ≤ -(2 ^ (30 - range)) → code = -32768) ∧
    (∀ n : Int, -32768 ≤ n → n ≤ 32767 →
      (input = n * 2 ^ (15 - range) → code = n) ∧
      (n * 2 ^ (15 - range) < input → input < (n + 1) * 2 ^ (15 - range) → code = n ∨ code = min (n + 1) 32767)) := by
  intro code
  have hpos := codeStep_pos range
  have hscale := fullScale_eq hrange
  have htop : fullScale range ≤ input → code = 32767 := fun h => by
    unfold code convert
    rw [if_pos h]
    rfl
  have hbottom : input ≤ -fullScale range → code = -32768 := fun h => by
    unfold code convert
    rw [if_neg (by omega), if_pos h]
    rfl
  refine ⟨htop, hbottom, fun n hlow hhigh => ⟨fun heq => ?_, fun hfrom hto => ?_⟩⟩
  · change input = n * codeStep range at heq
    by_cases hend : input ≤ -fullScale range
    · have hn : n = -32768 := by nlinarith
      rw [hbottom hend, hn]
    · rcases convert_within (ch := ch) (tick := tick) hrange hlow hhigh heq.ge (by nlinarith) (by omega) with h | ⟨hne, -⟩
      · exact h
      · exact absurd heq.symm hne
  · change n * codeStep range < input at hfrom
    change input < (n + 1) * codeStep range at hto
    exact (convert_within hrange hlow hhigh hfrom.le hto (by nlinarith)).imp_right And.right

/-! ### The codes in history (R128) -/

/-- History after the codes of a list of channels have been written at a tick. -/
def writtenHistory (tick : Nat) (codes : Vector SampleCode 8) (l : List (Fin 8)) (m : Memory) : Memory :=
  l.foldl (fun m c => Memory.writeWord (historyAddr c tick) codes[c] m) m

/-- The codes of the enabled channels written change history and its fill alone: each of their rings holds one tick more, until it is full (R128). -/
theorem writeHistory_spec (tick : Nat) (codes : Vector SampleCode 8) (p : Part) : ∃ fill : Vector Nat 8,
    (∀ c : Fin 8, fill[c] = if p.smp.enabled.getLsbD c.val = true then min (p.fill[c] + 1) 16384 else p.fill[c]) ∧
    writeHistory tick codes p =
      { p with history := writtenHistory tick codes (channelList p.smp.enabled) p.history, fill := fill } := by
  have hhistory : (writeHistory tick codes p).history = writtenHistory tick codes (channelList p.smp.enabled) p.history :=
    (List.foldl_hom Part.history fun _ _ => rfl).symm
  have hframe : writeHistory tick codes p =
      { p with history := (writeHistory tick codes p).history, fill := (writeHistory tick codes p).fill } :=
    List.foldlRecOn (motive := fun (q : Part) => q = { p with history := q.history, fill := q.fill }) _ _ rfl (fun q hq _ _ => by rw [hq])
  have hentry := foldl_entries (get := fun p c => p.fill[c]) (g := fun _ n => min (n + 1) Config.historyDepth)
    (f := fun p ch => { p with
      history := Memory.writeWord (historyAddr ch tick) codes[ch] p.history
      fill := p.fill.set ch.val (min (p.fill[ch] + 1) Config.historyDepth) })
    (fun p a k => by
      simp only [Fin.getElem_fin, Vector.getElem_set, Fin.ext_iff]
      split
      · rename_i h
        simp only [h]
      · rfl) (channelList_nodup p.smp.enabled) p
  simp only [mem_channelList] at hentry
  exact ⟨(writeHistory tick codes p).fill, hentry, by rw [← hhistory]; exact hframe⟩

section Written

variable {tick : Nat} {codes : Vector SampleCode 8} {l : List (Fin 8)} {m : Memory} (hm : Memory.wf m)
include hm

theorem writtenHistory_wf : Memory.wf (writtenHistory tick codes l m) :=
  List.foldlRecOn (motive := Memory.wf) l _ hm (fun _ h _ _ => Memory.writeWord_wf _ _ h)

/-- A byte that belongs to no code written stays. -/
theorem writtenHistory_other {a : Nat} (h : ∀ c ∈ l, a ≠ historyAddr c tick ∧ a ≠ historyAddr c tick + 1) :
    (writtenHistory tick codes l m).read a = m.read a := by
  induction l using List.reverseRecOn with
  | nil => rfl
  | append_singleton l c ih =>
    obtain ⟨hlow, hhigh⟩ := h c (by simp)
    rw [writtenHistory, List.foldl_concat]
    exact (Memory.read_writeWord_other _ (writtenHistory_wf hm) hlow hhigh).trans (ih (fun k hk => h k (List.mem_append_left _ hk)))

/-- A code written reads back: the rings of different channels share no byte. -/
theorem writtenHistory_code {c : Fin 8} (hc : c ∈ l) : (writtenHistory tick codes l m).readWord (historyAddr c tick) = codes[c] := by
  induction l using List.reverseRecOn with
  | nil => cases hc
  | append_singleton l k ih =>
    rw [writtenHistory, List.foldl_concat]
    by_cases hk : c = k
    · subst hk
      exact Memory.readWord_writeWord _ _ (writtenHistory_wf hm)
    · have hcl : c ∈ l := by simpa [hk] using hc
      have happart : c.val ≠ k.val := fun e => hk (Fin.ext e)
      refine (readWord_congr (Memory.read_writeWord_other _ (writtenHistory_wf hm) ?_ ?_)
        (Memory.read_writeWord_other _ (writtenHistory_wf hm) ?_ ?_)).trans (ih hcl) <;>
        simp only [historyAddr, Config.historyDepth] <;> omega

end Written

/-! ### RNG's share of a tick event (R125, R138) -/

/-- A channel after RNG has taken a code into its span (R138). -/
theorem codeIntoSpan_eq (code : SampleCode) (x : Channel) : codeIntoSpan code x = { x with
    spanPos := x.spanPos + 1
    spanPeak := max x.spanPeak code.toInt.natAbs
    spanClip := x.spanClip || decide (code = 0x8000) || decide (code = 0x7FFF) } := by
  have hclip : (x.spanClip || isEndCode code) = (x.spanClip || decide (code = 0x8000) || decide (code = 0x7FFF)) := by
    rw [isEndCode, Bool.or_assoc]
    rfl
  rw [codeIntoSpan, hclip]
  rfl

/-- A channel after RNG has observed its code (R138): a code that would end the span waits. -/
theorem observeCode_eq (code : SampleCode) (x : Channel) : observeCode code x =
    if x.spanPos + 1 < 256 then { x with
      spanPos := x.spanPos + 1
      spanPeak := max x.spanPeak code.toInt.natAbs
      spanClip := x.spanClip || decide (code = 0x8000) || decide (code = 0x7FFF) }
    else { x with arriving := some code } := by
  rw [observeCode, codeIntoSpan_eq]
  rfl

/-- RNG observes the codes of the enabled channels, and changes their channels alone (R125). -/
theorem observeTick_spec (codes : Vector SampleCode 8) (p : Part) : ∃ channels : Vector Channel 8,
    (∀ c : Fin 8, channels[c] =
      if p.smp.enabled.getLsbD c.val = true then observeCode codes[c] p.channels[c] else p.channels[c]) ∧
    observeTick codes p = { p with channels := channels } := by
  have hentry := foldl_entries (get := fun p c => p.channels[c]) (g := fun c x => observeCode codes[c] x)
    (f := fun p ch => modifyChannel ch (observeCode codes[ch]) p)
    (fun p a k => by
      rw [modifyChannel_get]
      split
      · rename_i h
        rw [h]
      · rfl) (channelList_nodup p.smp.enabled) p
  simp only [mem_channelList] at hentry
  exact ⟨(observeTick codes p).channels, hentry,
    List.foldlRecOn (motive := fun (q : Part) => q = { p with channels := q.channels }) _ _ rfl (fun q hq _ _ => by rw [hq]; rfl)⟩

/-- A code that does not end the span is taken at SPAN_END as in the tick event itself (R138). -/
theorem spanArrival_within {ch : Fin 8} {p : Part} {code : SampleCode} (harriving : p.channels[ch].arriving = some code)
    (hwithin : p.channels[ch].spanPos + 1 < 256) : spanArrival ch p = { p with
      channels := p.channels.set ch.val { p.channels[ch] with
        arriving := none
        spanPos := p.channels[ch].spanPos + 1
        spanPeak := max p.channels[ch].spanPeak code.toInt.natAbs
        spanClip := p.channels[ch].spanClip || decide (code = 0x8000) || decide (code = 0x7FFF) } } := by
  have htaken := codeIntoSpan_eq code { p.channels[ch] with arriving := none }
  refine Eq.trans ?_ (congrArg (fun x => { p with channels := p.channels.set ch.val x }) htaken)
  unfold spanArrival takeCode
  simp only [harriving, modifyChannel_get_self]
  refine (if_neg (Nat.not_le.2 hwithin)).trans ?_
  simp only [modifyChannel, Fin.getElem_fin, Vector.getElem_set_self, Vector.set_set]

/-! ### The whole tick event -/

/-- TRG's share of a tick event changes the lines, the detectors and its own fields alone. -/
theorem triggerTick_frame (tick : Nat) (codes : Vector SampleCode 8) (p : Part) :
    ∃ lines detectors trg, triggerTick tick codes p = { p with lines := lines, detectors := detectors, trg := trg } := by
  obtain ⟨lines, hread⟩ : ∃ lines, readLatches p = { p with lines := lines } := ⟨_, modifyLine_all _ p⟩
  obtain ⟨detectors, hjudged⟩ : ∃ detectors, judgeDetectors codes (readLatches p) = { p with lines := lines, detectors := detectors } := by
    rw [hread]
    refine List.foldlRecOn (motive := fun (q : Part) => ∃ detectors, q = { p with lines := lines, detectors := detectors }) allChannels _
      ⟨p.detectors, rfl⟩ ?_
    rintro q ⟨detectors, rfl⟩ c -
    split
    · exact ⟨_, rfl⟩
    · exact ⟨detectors, rfl⟩
  unfold triggerTick
  rw [hjudged]
  extract_lets soft sources judged
  by_cases hnone : sources = 0
  · exact ⟨lines, detectors, p.trg, if_pos hnone⟩
  · exact ⟨lines, detectors, _, if_neg hnone⟩

/-- The copies before a tick change the window side alone. -/
theorem copiesBeforeLoss_frame (tick : Nat) (p : Part) :
    ∃ ws : WindowSide, allSlots.foldl (fun q w => copyBeforeLoss tick w q) p = p.withWindows ws := by
  refine List.foldlRecOn (motive := fun (q : Part) => ∃ ws, q = p.withWindows ws) allSlots _ ⟨p.windowSide, rfl⟩ ?_
  rintro q ⟨ws, rfl⟩ w -
  unfold copyBeforeLoss
  split
  · split
    · exact ⟨_, copyFrame_frame w _⟩
    · exact ⟨ws, rfl⟩
  · exact ⟨ws, rfl⟩

/-- The LIVE windows' share of a tick event changes the window side alone. -/
theorem liveTicks_frame (tick : Nat) (codes : Vector SampleCode 8) (p : Part) :
    ∃ ws : WindowSide, liveTicks tick codes allSlots p = p.withWindows ws := by
  refine List.foldlRecOn (motive := fun (q : Part) => ∃ ws, q = p.withWindows ws) allSlots _ ⟨p.windowSide, rfl⟩ ?_
  rintro q ⟨ws, rfl⟩ w -
  rcases liveTick_spec tick codes w (p.withWindows ws) with ⟨x, r, hstores⟩ | ⟨v, hslot⟩
  · rw [liveTick_stores hstores]
    exact ⟨_, storeFrame_frame w _ tick _ _⟩
  · exact ⟨{ ws with slots := ws.slots.set w.val v }, hslot⟩

/-- With no window in COPYING or LIVE a tick event leaves the window side alone (R70, R71). -/
theorem tickEvent_windowSide {inputs : Vector Int 8} {p : Part} (htakes : takesTick p.smp = true)
    (hended : ∀ (w : Fin 4) (x : Window), p.slots[w] = some x → x.phase = .ended) : (tickEvent inputs p).windowSide = p.windowSide := by
  have hkeeps : ∀ v, KeepsNext p.smp.tickCounter p v := fun v y hy hcopying => by
    rw [hended v y hy] at hcopying
    cases hcopying
  obtain ⟨o, ho, ht⟩ := tickEvent_liveTicks inputs htakes hkeeps
  have hslots : o.slots = p.slots := (windowSide_eq_iff.1 ho).1
  have hquiet : liveTicks p.smp.tickCounter (sampledCodes inputs (settleSpans p)) allSlots o = o :=
    List.foldlRecOn (motive := fun q => q = o) allSlots _ rfl (fun q hq w _ => by
      rw [hq]
      refine liveTick_other (fun x hx => .inl (fun hlive => ?_))
      rw [hslots] at hx
      rw [hended w x hx] at hlive
      cases hlive)
  rw [ht, hquiet, ho]

/-- All that a tick event changes, field by field: of RNG, SMP and HIS what they become, of the rest what may change (R125). -/
theorem tickEvent_spec (inputs : Vector Int 8) {p : Part} (htakes : takesTick p.smp = true) {tick : Nat} (htick : p.smp.tickCounter = tick)
    {codes : Vector SampleCode 8} (hcodes : sampledCodes inputs (settleSpans p) = codes) :
    ∃ (fill : Vector Nat 8) (channels : Vector Channel 8) (lines : Vector ExtLine 4) (detectors : Vector Detector 8) (trg : TriggerUnit)
      (ws : WindowSide),
      (∀ c : Fin 8, fill[c] = if p.smp.enabled.getLsbD c.val = true then min (p.fill[c] + 1) 16384 else p.fill[c]) ∧
      (∀ c : Fin 8, channels[c] = if p.smp.enabled.getLsbD c.val = true then observeCode codes[c] (settleSpans p).channels[c]
        else (settleSpans p).channels[c]) ∧
      tickEvent inputs p = { p with
        smp := sampledTick tick p.smp, fill := fill
        history := writtenHistory tick codes (channelList p.smp.enabled) p.history
        channels := channels, lines := lines, detectors := detectors, trg := trg
        slots := ws.slots, records := ws.records, blocks := ws.blocks, lnk := (settleSpans p).lnk } := by
  have hframe := settleSpans_frame p
  unfold tickEvent
  rw [if_pos htakes]
  extract_lets tick' settled codes' copied written sampled triggered observed
  obtain ⟨copy, hcopied⟩ : ∃ ws, copied = settled.withWindows ws := copiesBeforeLoss_frame tick' settled
  obtain ⟨fill, hfill, hwritten⟩ : ∃ fill : Vector Nat 8, _ ∧ written = _ := writeHistory_spec tick' codes' copied
  have hsampled : sampled = { written with smp := sampledTick tick' written.smp } := rfl
  obtain ⟨lines, detectors, trg, htriggered⟩ : ∃ lines detectors trg, triggered = _ := triggerTick_frame tick' codes' sampled
  obtain ⟨channels, hchannels, hobserved⟩ : ∃ channels : Vector Channel 8, _ ∧ observed = _ := observeTick_spec codes' triggered
  obtain ⟨live, hlive⟩ := liveTicks_frame tick' codes' observed
  have htick' : tick' = tick := htick
  have hcodes' : codes' = codes := hcodes
  have hsettled : settleSpans p = settled := rfl
  rw [hsettled] at hframe ⊢
  clear_value observed triggered sampled written copied codes' settled tick'
  subst hobserved htriggered hsampled hwritten hcopied htick' hcodes'
  rw [hframe] at hfill hchannels
  refine ⟨fill, channels, lines, detectors, trg, live, hfill, hchannels, hlive.trans ?_⟩
  rw [hframe]
  rfl

/-- RNG takes the codes on their way to it in ascending channel order (R140). -/
theorem settleSpans_eq (p : Part) : settleSpans p = spanArrival 7 (spanArrival 6 (spanArrival 5 (spanArrival 4
    (spanArrival 3 (spanArrival 2 (spanArrival 1 (spanArrival 0 p))))))) := by
  simp only [settleSpans, allChannels, List.foldl_cons, List.foldl_nil]

/-- With no code on its way SPAN_END changes nothing. -/
theorem spanArrival_none {ch : Fin 8} {p : Part} (h : p.channels[ch].arriving = none) : spanArrival ch p = p := by
  unfold spanArrival
  rw [h]

/-- Settles O11: the conversion by its cases, the tick event field by field, and RNG's taking of the codes of earlier ticks. -/
theorem tickEventSamplesTheEnabledChannels : Obligations.TickEventSamplesTheEnabledChannels := by
  refine ⟨convert_spec, fun s p inputs hp hwf => ?_, fun s p hp => ⟨settleSpans_eq p, fun ch => ?_⟩⟩
  · have hexec : exec (.tickEvent inputs) s = .next (s.withPart (tickEvent inputs p)) :=
      (onEvent_eq (tickEvent inputs) s).trans (by rw [hp])
    refine ⟨fun hstill => ?_, fun hrunning hnewest => ?_⟩
    · have htakes : ¬ takesTick p.smp = true := by
        rcases hstill with h | h <;> simp [takesTick, Config.lastTick, h]
      rw [hexec, tickEvent, if_neg htakes]
    · intro tick code
      have htakes : takesTick p.smp = true := by simp [takesTick, Config.lastTick, hrunning, hnewest]
      have hsmp : (settleSpans p).smp = p.smp := (settleSpans_keeps p).2.2
      have hcode : ∀ c : Fin 8, (sampledCodes inputs (settleSpans p))[c] = code c := fun c => by
        simp only [sampledCodes, hsmp, Fin.getElem_fin, Vector.getElem_ofFn]
        rfl
      have hlnk := settleSpans_lnk p
      have hwindows := tickEvent_windowSide (inputs := inputs) htakes
      obtain ⟨fill, channels, lines, detectors, trg, ws, hfill, hchannels, ht⟩ := tickEvent_spec inputs htakes (tick := tick) rfl rfl
      rw [ht] at hexec hwindows
      clear_value code
      generalize sampledCodes inputs (settleSpans p) = codes at *
      refine ⟨_, hexec, rfl, fun c hc => ⟨?_, ?_⟩, fun c hc => ?_, fun a ha => ?_, fun c => ?_, fun hended => ?_, ?_⟩
      · rw [← hcode]
        exact writtenHistory_code hwf (mem_channelList.2 hc)
      · exact (hfill c).trans (if_pos hc)
      · exact (hfill c).trans (if_neg (by rw [hc]; nofun))
      · exact writtenHistory_other hwf (fun c hc => ha c (mem_channelList.1 hc))
      · refine (hchannels c).trans ?_
        rw [hcode, observeCode_eq]
        by_cases hc : p.smp.enabled.getLsbD c.val = true
        · exact (if_pos hc).trans (if_neg (by rw [hc]; nofun)).symm
        · exact (if_neg hc).trans (if_pos (Bool.eq_false_iff.2 hc)).symm
      · obtain ⟨hslots, hrecords, hblocks⟩ := windowSide_eq_iff.1 (hwindows hended)
        exact ⟨hblocks, hrecords, hslots⟩
      · rw [← hlnk]
  · have hexec : exec (.spanEnd ch) s = .next (s.withPart (spanArrival ch p)) := (onEvent_eq (spanArrival ch) s).trans (by rw [hp])
    exact ⟨hexec, spanArrival_none, fun code => spanArrival_within⟩

end Sys2Proof.Machine
end

section
/-!
SUPPORT. Records handed to their lanes one after another, as the seals of a stop do it (R73 step 6, R83, R88): what becomes of a record that is handed
over, and of one that is not.
-/

namespace Sys2Proof.Machine

/-! ### One hand-off -/

/-- How often a record ID stands in a lane's delivery queue. -/
def Part.waiting (p : Part) (id : Nat) (l : Fin 2) : Nat :=
  p.lanes[l].queue.count id

theorem waiting_eq_zero {p : Part} {id : Nat} {l : Fin 2} : p.waiting id l = 0 ↔ id ∉ p.lanes[l].queue :=
  List.count_eq_zero

theorem waiting_congr {p q : Part} {l : Fin 2} (h : q.lanes[l] = p.lanes[l]) (id : Nat) : q.waiting id l = p.waiting id l := by
  rw [Part.waiting, Part.waiting, h]

/-- A hand-off leaves the other lane alone. -/
theorem handOff_otherLane {l k : Fin 2} (h : l ≠ k) (id : Nat) (p : Part) : (handOff l id p).lanes[k] = p.lanes[k] := by
  rw [handOff, beginStaging_otherLane h, modifyLane_get_other h]

/-- A hand-off puts the record at the tail of its lane's queue, and at most the head of that queue goes out (R83, R84, R88). -/
theorem handOff_queue (l : Fin 2) (id : Nat) (p : Part) :
    ((handOff l id p).records = p.records ∧ (handOff l id p).lanes[l].queue = p.lanes[l].queue ++ [id]) ∨
    ∃ head, head :: (handOff l id p).lanes[l].queue = p.lanes[l].queue ++ [id] ∧
      (handOff l id p).records = (modifyRecord head recordSending p).records := by
  have hqueue := congrArg Lane.queue (modifyLane_get_self l (fun ln => { ln with queue := ln.queue ++ [id] }) p)
  unfold handOff
  rcases beginStaging_records l (modifyLane l (fun ln => { ln with queue := ln.queue ++ [id] }) p) with
    ⟨hrecords, hq⟩ | ⟨head, rest, hq, hrecords, hrest⟩
  · exact .inl ⟨hrecords, hq.trans hqueue⟩
  · refine .inr ⟨head, ?_, hrecords⟩
    rw [hrest, ← hq]
    exact hqueue

/-- What a hand-off to lane `l` does to the record of any ID: nothing, or the record goes out and stands in the queue once less. -/
theorem handOff_find (l : Fin 2) (handed id : Nat) (p : Part) :
    (findRecord (handOff l handed p) id = findRecord p id ∧
      (handOff l handed p).waiting id l = p.waiting id l + if handed = id then 1 else 0) ∨
    (findRecord (handOff l handed p) id = (findRecord p id).map sendingOf ∧
      (handOff l handed p).waiting id l + 1 = p.waiting id l + if handed = id then 1 else 0) := by
  have hcount : (p.lanes[l].queue ++ [handed]).count id = p.waiting id l + if handed = id then 1 else 0 := by
    simp [Part.waiting, List.count_append, List.count_singleton]
  rcases handOff_queue l handed p with ⟨hrecords, hq⟩ | ⟨head, hq, hrecords⟩
  · refine .inl ⟨findRecord_congr hrecords id, ?_⟩
    rw [Part.waiting, hq, hcount]
  · rw [← hq, List.count_cons] at hcount
    by_cases hhead : head = id
    · subst hhead
      refine .inr ⟨(findRecord_congr hrecords head).trans (findRecord_modifyRecord head recordSending (fun _ => rfl) p), ?_⟩
      simpa [Part.waiting] using hcount
    · refine .inl ⟨(findRecord_congr hrecords id).trans (findRecord_modifyRecord_other (Ne.symm hhead) recordSending (fun _ => rfl) p), ?_⟩
      simpa [Part.waiting, hhead] using hcount

/-! ### The hand-over of a window's record -/

theorem handedOver_found {x : Window} {p : Part} {r : Record} (hr : findRecord p x.recordId = some r) :
    handedOver x p = handOff r.lane x.recordId (modifyRecord x.recordId (sealedAs x) p) := by
  have hid : r.id = x.recordId := findRecord_id hr
  unfold handedOver
  rw [hr]
  dsimp only
  rw [hid]
  rfl

theorem handedOver_none {x : Window} {p : Part} (hr : findRecord p x.recordId = none) : handedOver x p = p := by
  unfold handedOver
  rw [hr]

/-- What the hand-over makes of the records and the lanes depends on the records and the lanes alone. -/
theorem handedOver_congr (x : Window) {p q : Part} (hrecords : q.records = p.records) (hlanes : q.lanes = p.lanes) :
    (handedOver x q).records = (handedOver x p).records ∧ (handedOver x q).lanes = (handedOver x p).lanes := by
  have hfind := findRecord_congr hrecords x.recordId
  unfold handedOver
  rw [hfind]
  cases findRecord p x.recordId with
  | none => exact ⟨hrecords, hlanes⟩
  | some r => exact (beginStaging_congr r.lane (by simp only [hlanes]) (by simp only [hrecords])).symm

/-- The hand-over for one slot: that of its window's record, if it holds a window. -/
def handSlot (p : Part) (o : Option Window) : Part :=
  match o with
  | none => p
  | some x => handedOver x p

theorem handSlot_congr (o : Option Window) {p q : Part} (hrecords : q.records = p.records) (hlanes : q.lanes = p.lanes) :
    (handSlot q o).records = (handSlot p o).records ∧ (handSlot q o).lanes = (handSlot p o).lanes := by
  cases o with
  | none => exact ⟨hrecords, hlanes⟩
  | some x => exact handedOver_congr x hrecords hlanes

/-- A hand-over keeps the IDs of the records. -/
theorem handSlot_ids (p : Part) (o : Option Window) : (handSlot p o).records.map (fun r => r.id) = p.records.map (fun r => r.id) := by
  cases o with
  | none => rfl
  | some x =>
    rw [handSlot]
    cases hr : findRecord p x.recordId with
    | none => rw [handedOver_none hr]
    | some r =>
      rw [handedOver_found hr, ids_of_storage (storage_handOff _ _ _)]
      exact map_modifyFirst _ _ (sealedAs x) (fun _ => rfl) _

/-- What the hand-over for a slot does to a record of another ID: nothing, or the record goes out and leaves the queue of its lane. -/
theorem handSlot_other {p : Part} {o : Option Window} {id : Nat} (h : ∀ x, o = some x → x.recordId ≠ id) :
    (findRecord (handSlot p o) id = findRecord p id ∧ ∀ k, (handSlot p o).waiting id k = p.waiting id k) ∨
    ∃ l, findRecord (handSlot p o) id = (findRecord p id).map sendingOf ∧ (handSlot p o).waiting id l + 1 = p.waiting id l ∧
      ∀ k, k ≠ l → (handSlot p o).waiting id k = p.waiting id k := by
  cases o with
  | none => exact .inl ⟨rfl, fun _ => rfl⟩
  | some x =>
    have hne : x.recordId ≠ id := h x rfl
    rw [handSlot]
    cases hr : findRecord p x.recordId with
    | none =>
      rw [handedOver_none hr]
      exact .inl ⟨rfl, fun _ => rfl⟩
    | some r =>
      have hother := findRecord_modifyRecord_other (Ne.symm hne) (sealedAs x) (fun _ => rfl) p
      have hfind := handOff_find r.lane x.recordId id (modifyRecord x.recordId (sealedAs x) p)
      have hlane : ∀ k, k ≠ r.lane → (handOff r.lane x.recordId (modifyRecord x.recordId (sealedAs x) p)).waiting id k = p.waiting id k :=
        fun k hk => waiting_congr (handOff_otherLane (Ne.symm hk) _ _) id
      rw [hother, if_neg hne] at hfind
      rw [handedOver_found hr]
      rcases hfind with ⟨hsame, hcount⟩ | ⟨hsent, hcount⟩
      · refine .inl ⟨hsame, fun k => ?_⟩
        by_cases hk : k = r.lane
        · subst hk
          exact hcount
        · exact hlane k hk
      · exact .inr ⟨r.lane, hsent, hcount, hlane⟩

/-! ### What the hand-overs leave of a record -/

/-- A record handed over to lane `l` as `r`: it waits in that lane's queue, or it has gone out; no other lane's queue names it (R83, R84). -/
structure HandedAs (p : Part) (id : Nat) (l : Fin 2) (r : Record) : Prop where
  otherLane : ∀ k, k ≠ l → p.waiting id k = 0
  waits : (findRecord p id = some r ∧ p.waiting id l = 1) ∨ (findRecord p id = some (sendingOf r) ∧ p.waiting id l = 0)

/-- The hand-over of a record that no queue names. -/
theorem handedAs_handSlot {p : Part} {x : Window} {r : Record} (hr : findRecord p x.recordId = some r) (hqueues : ∀ l, p.waiting x.recordId l = 0) :
    HandedAs (handSlot p (some x)) x.recordId r.lane (sealedAs x r) := by
  have hsealed : findRecord (modifyRecord x.recordId (sealedAs x) p) x.recordId = some (sealedAs x r) := by
    rw [findRecord_modifyRecord x.recordId (sealedAs x) (fun _ => rfl), hr]
    rfl
  have hfind := handOff_find r.lane x.recordId x.recordId (modifyRecord x.recordId (sealedAs x) p)
  have hempty : (modifyRecord x.recordId (sealedAs x) p).waiting x.recordId r.lane = 0 := hqueues r.lane
  rw [hsealed, if_pos rfl, hempty] at hfind
  rw [handSlot, handedOver_found hr]
  refine ⟨fun k hk => (waiting_congr (handOff_otherLane (Ne.symm hk) _ _) _).trans (hqueues k), ?_⟩
  exact hfind.imp id (fun ⟨hsent, hcount⟩ => ⟨hsent, Nat.succ.inj hcount⟩)

/-- A record handed over stays so while others are: at most it goes out. -/
theorem handedAs_other {p : Part} {o : Option Window} {id : Nat} {l : Fin 2} {r : Record} (h : ∀ x, o = some x → x.recordId ≠ id)
    (hp : HandedAs p id l r) : HandedAs (handSlot p o) id l r := by
  obtain ⟨hlanes, hwaits⟩ := hp
  rcases handSlot_other (p := p) h with ⟨hsame, hcount⟩ | ⟨k, hsent, hcount, hothers⟩
  · exact ⟨fun k hk => (hcount k).trans (hlanes k hk), by rwa [hsame, hcount l]⟩
  · obtain rfl : k = l := by
      by_contra hk
      have := hlanes k hk
      omega
    refine ⟨fun j hj => (hothers j hj).trans (hlanes j hj), ?_⟩
    rcases hwaits with ⟨hr, hone⟩ | ⟨-, hnone⟩
    · refine .inr ⟨?_, by omega⟩
      rw [hsent, hr]
      rfl
    · omega

/-- What of a record does not change when it goes out. -/
def unsent (r : Record) : Record :=
  { r with state := .sealed, deliveries := 0 }

/-- The hand-overs for a list of slots, as the part's slots stand at first. -/
def handSlots (p : Part) (l : List (Fin 4)) : Part :=
  l.foldl (fun q w => handSlot q p.slots[w]) p

theorem handSlots_concat (p : Part) (l : List (Fin 4)) (w : Fin 4) : handSlots p (l ++ [w]) = handSlot (handSlots p l) p.slots[w] :=
  List.foldl_concat ..

theorem handSlots_ids (p : Part) (l : List (Fin 4)) : (handSlots p l).records.map (fun r => r.id) = p.records.map (fun r => r.id) :=
  List.foldlRecOn (motive := fun (q : Part) => q.records.map (fun r => r.id) = p.records.map (fun r => r.id)) l _ rfl
    (fun q hq w _ => (handSlot_ids q p.slots[w]).trans hq)

/-- No slot of a list holds the window of a record ID. -/
abbrev NoWindowOf (p : Part) (l : List (Fin 4)) (id : Nat) : Prop :=
  ∀ w ∈ l, ∀ x, p.slots[w] = some x → x.recordId ≠ id

/-- The hand-overs of others at most send a record out. -/
theorem handSlots_unsent {p : Part} {id : Nat} {l : List (Fin 4)} (h : NoWindowOf p l id) :
    (findRecord (handSlots p l) id).map unsent = (findRecord p id).map unsent :=
  List.foldlRecOn (motive := fun q => (findRecord q id).map unsent = (findRecord p id).map unsent) l _ rfl (fun q hq w hw => by
    rcases handSlot_other (p := q) (h w hw) with ⟨hsame, -⟩ | ⟨_, hsent, -⟩
    · rw [hsame, hq]
    · rw [hsent, Option.map_map, ← hq]
      rfl)

/-- The hand-overs of others leave a record alone that no queue names. -/
theorem handSlots_other {p : Part} {id : Nat} {l : List (Fin 4)} (h : NoWindowOf p l id) (hqueues : ∀ k, p.waiting id k = 0) :
    findRecord (handSlots p l) id = findRecord p id ∧ ∀ k, (handSlots p l).waiting id k = 0 :=
  List.foldlRecOn (motive := fun q => findRecord q id = findRecord p id ∧ ∀ k, q.waiting id k = 0) l _ ⟨rfl, hqueues⟩
    (fun q ⟨hq, hnone⟩ w hw => by
      rcases handSlot_other (p := q) (h w hw) with ⟨hsame, hcount⟩ | ⟨k, -, hcount, -⟩
      · exact ⟨hsame.trans hq, fun k => (hcount k).trans (hnone k)⟩
      · have := hnone k
        omega)

/-- The record of each window is handed over, where the windows' records are distinct and no queue names it. -/
theorem handedAs_handSlots {p : Part} (hdistinct : WindowsDistinct p) {w : Fin 4} {x : Window} {r : Record} (hw : p.slots[w] = some x)
    (hr : findRecord p x.recordId = some r) (hqueues : ∀ k, p.waiting x.recordId k = 0) {l : List (Fin 4)} (hl : l.Nodup) (hmem : w ∈ l) :
    HandedAs (handSlots p l) x.recordId r.lane (sealedAs x r) := by
  have hothers : ∀ v, v ≠ w → ∀ y, p.slots[v] = some y → y.recordId ≠ x.recordId := fun v hv y hy => hdistinct v w y x hv hy hw
  induction l using List.reverseRecOn with
  | nil => cases hmem
  | append_singleton l v ih =>
    obtain ⟨hl, -, hv⟩ := List.nodup_append.1 hl
    rw [handSlots_concat]
    by_cases hvw : v = w
    · subst hvw
      have hbefore : NoWindowOf p l x.recordId := fun u hu => hothers u (hv u hu v (List.mem_singleton_self v))
      obtain ⟨hfind, hnone⟩ := handSlots_other hbefore hqueues
      rw [hw]
      exact handedAs_handSlot (hfind.trans hr) hnone
    · exact handedAs_other (hothers v hvw) (ih hl (by simpa [Ne.symm hvw] using hmem))

end Sys2Proof.Machine
end

section
/-!
SUPPORT. The seals of a stop of the Sampler (R131 step 3): what one of them leaves, whether its window's record is live or not, and what a
number of them leave.
-/

namespace Sys2Proof.Machine

/-! ### A seal whose window's record is not live -/

/-- Without a match nothing changes. -/
theorem modifyFirst_of_find_none {α : Type} {q : α → Bool} (f : α → α) : ∀ {l : List α}, l.find? q = none → modifyFirst q f l = l
  | [], _ => rfl
  | a :: l, h => by
    obtain ⟨ha, hl⟩ : q a = false ∧ l.find? q = none := by
      cases ha : q a <;> simp [ha] at h ⊢
      exact h
    rw [modifyFirst, ha, modifyFirst_of_find_none f hl]
    rfl

/-- A seal whose window's record is not live lowers the locks, frees the slot and closes the plan's OPEN record. -/
theorem sealRecord_unrecorded {p : Part} {x : Window} (hr : findRecord p x.recordId = none) (w : Fin 4) : sealRecord w x p = { p with
    channels := (lowerLocks x.channels p).channels
    slots := p.slots.set w.val none
    plans := p.plans.set x.plan.val { p.plans[x.plan] with openRecord := none } } := by
  have hsame : modifyRecord x.recordId (sealedRecord x) p = p := by
    rw [modifyRecord, modifyFirst_of_find_none (sealedRecord x) hr]
  have htrim : trimChain x.recordId p = p := by
    unfold trimChain
    rw [hr]
  have hclosed : modifyPlan x.plan (fun pl => { pl with openRecord := none }) (setSlot w none (lowerLocks x.channels p)) = { p with
      channels := (lowerLocks x.channels p).channels
      slots := p.slots.set w.val none
      plans := p.plans.set x.plan.val { p.plans[x.plan] with openRecord := none } } := by
    rw [lowerLocks_frame]
    rfl
  unfold sealRecord
  rw [hsame, htrim]
  simp only [hclosed]
  have hnone := (findRecord_congr (p := p) (q := { p with
      channels := (lowerLocks x.channels p).channels
      slots := p.slots.set w.val none
      plans := p.plans.set x.plan.val { p.plans[x.plan] with openRecord := none } }) rfl x.recordId).trans hr
  rw [hnone]

/-! ### One seal -/

/-- The report of the seal of what a slot holds (R73 step 6). -/
def sealReports (p : Part) (o : Option Window) : List Report :=
  (o.bind fun x => (findRecord p x.recordId).map (sealReport x)).toList

/-- The blocks that the seal of what a slot holds gives back (R4, R7). -/
def freedBlocks (p : Part) (o : Option Window) : List Nat :=
  ((o.bind fun x => findRecord p x.recordId).map fun r => r.chain.drop ((r.words + 255) / 256)).getD []

/-- A slot's window locks a channel (R68). -/
def slotLocks (c : Fin 8) (o : Option Window) : Bool :=
  o.any (fun x => x.channels.getLsbD c.val)

/-- What the seal of a slot leaves of the part `p` in the part `q` with no job pending (R73, R131 step 3). -/
structure SlotSealed (w : Fin 4) (p q : Part) : Prop where
  slots : ∀ v : Fin 4, q.slots[v] = if w = v then none else p.slots[v]
  plans : ∀ i : Fin 8, q.plans[i] = { p.plans[i] with openRecord := q.plans[i].openRecord }
  locks : ∀ c : Fin 8, q.channels[c] = { p.channels[c] with
    lockCount := p.channels[c].lockCount - (if slotLocks c p.slots[w] then 1 else 0) }
  handOver : q.records = (handSlot p p.slots[w]).records ∧ q.lanes = (handSlot p p.slots[w]).lanes
  freeList : q.freeList = p.freeList ++ freedBlocks p p.slots[w]
  reports : q.lnk = (postReports (sealReports p p.slots[w]) p).lnk
  rest : q = { p with
    channels := q.channels, plans := q.plans, slots := q.slots, freeList := q.freeList
    records := q.records, lanes := q.lanes, lnk := q.lnk }

/-- A slot emptied. -/
theorem emptied_get (w v : Fin 4) (p : Part) : (p.slots.set w.val none)[v] = if w = v then none else p.slots[v] := by
  simp only [Fin.getElem_fin, Vector.getElem_set, Fin.ext_iff]

/-- A plan's OPEN record closed: the plans differ in no more than their OPEN records. -/
theorem closed_get (k i : Fin 8) (p : Part) : (p.plans.set k.val { p.plans[k] with openRecord := none })[i] =
    { p.plans[i] with openRecord := (p.plans.set k.val { p.plans[k] with openRecord := none })[i].openRecord } := by
  have hget := modifyPlan_get k i (fun pl => { pl with openRecord := none }) p
  simp only [modifyPlan] at hget
  rw [hget]
  split
  · rename_i hk
    rw [hk]
  · rfl

theorem slotSealed_sealRecord (w : Fin 4) {p : Part} {x : Window} (hw : p.slots[w] = some x) : SlotSealed w p (sealRecord w x p) := by
  cases hr : findRecord p x.recordId with
  | none =>
    rw [sealRecord_unrecorded hr]
    have hhanded := handedOver_none hr
    constructor
    case slots => exact fun v => emptied_get w v p
    case plans => exact fun i => closed_get x.plan i p
    case locks => exact fun c => by rw [hw]; exact lowerLocks_get x.channels p c
    case handOver => rw [hw, handSlot, hhanded]; exact ⟨rfl, rfl⟩
    case freeList => rw [hw, freedBlocks, Option.bind_some, hr]; exact (List.append_nil _).symm
    case reports => rw [hw, sealReports, Option.bind_some, hr]; rfl
    case rest => rfl
  | some r =>
    have h := sealedFrom_sealRecord hr w
    have hslots : (sealRecord w x p).slots = p.slots.set w.val none := congrArg Part.slots h.rest
    constructor
    case slots => exact fun v => by rw [hslots]; exact emptied_get w v p
    case plans => exact fun i => by rw [h.plans]; exact closed_get x.plan i p
    case locks => exact fun c => by rw [hw]; exact h.locks c
    case handOver => rw [hw]; exact h.handOver
    case freeList => rw [hw, freedBlocks, Option.bind_some, hr]; exact h.freeList
    case reports => rw [hw, sealReports, Option.bind_some, hr]; exact h.reports
    case rest => rw [hslots]; exact h.rest

/-- With no job pending, the seal of a slot of a stop is its steps 1 to 6, and an empty slot is left alone (R73, R131). -/
theorem slotSealed_sealWindow (w : Fin 4) {p : Part} (hjobs : p.jobs = []) : SlotSealed w p (sealWindow false w p) := by
  cases hw : p.slots[w] with
  | none =>
    have hsame : sealWindow false w p = p := by simp only [sealWindow, hw]
    rw [hsame]
    constructor
    case slots =>
      intro v
      split
      · rename_i hv
        rw [← hv, hw]
      · rfl
    case plans => exact fun _ => rfl
    case locks => exact fun c => by rw [hw]; rfl
    case handOver => rw [hw]; exact ⟨rfl, rfl⟩
    case freeList => rw [hw]; exact (List.append_nil _).symm
    case reports => rw [hw]; rfl
    case rest => rfl
  | some x =>
    have hempty : (sealRecord w x p).jobs = [] := ((capture_eq_iff.1 (capture_sealRecord w x p)).2.1).trans hjobs
    rw [sealWindow_false hw, reexamine_no_job hempty]
    exact slotSealed_sealRecord w hw

/-! ### The seals of a number of slots -/

/-- What the seals report and give back depends on no more of a record than what its sending leaves. -/
theorem sealReports_congr {p q : Part} {o : Option Window}
    (h : ∀ x, o = some x → (findRecord q x.recordId).map unsent = (findRecord p x.recordId).map unsent) : sealReports q o = sealReports p o := by
  have hunsent : ∀ (x : Window) (u : Part), (findRecord u x.recordId).map (sealReport x) = ((findRecord u x.recordId).map unsent).map (sealReport x) := by
    intro x u
    rw [Option.map_map]
    rfl
  cases o with
  | none => rfl
  | some x => rw [sealReports, sealReports, Option.bind_some, Option.bind_some, hunsent, hunsent, h x rfl]

theorem freedBlocks_congr {p q : Part} {o : Option Window}
    (h : ∀ x, o = some x → (findRecord q x.recordId).map unsent = (findRecord p x.recordId).map unsent) : freedBlocks q o = freedBlocks p o := by
  have hunsent : ∀ (id : Nat) (u : Part), (findRecord u id).map (fun r => r.chain.drop ((r.words + 255) / 256)) =
      ((findRecord u id).map unsent).map (fun r => r.chain.drop ((r.words + 255) / 256)) := by
    intro id u
    rw [Option.map_map]
    rfl
  cases o with
  | none => rfl
  | some x => rw [freedBlocks, freedBlocks, Option.bind_some, Option.bind_some, hunsent, hunsent, h x rfl]

/-- What the seals of a list of slots leave of the part `p` in the part `q` with no job pending (R131 step 3). -/
structure SlotsSealed (l : List (Fin 4)) (p q : Part) : Prop where
  slots : ∀ v : Fin 4, q.slots[v] = if v ∈ l then none else p.slots[v]
  plans : ∀ i : Fin 8, q.plans[i] = { p.plans[i] with openRecord := q.plans[i].openRecord }
  locks : ∀ c : Fin 8, q.channels[c] = { p.channels[c] with
    lockCount := p.channels[c].lockCount - (l.filter (fun w => slotLocks c p.slots[w])).length }
  handOver : q.records = (handSlots p l).records ∧ q.lanes = (handSlots p l).lanes
  freeList : WindowsDistinct p → q.freeList = p.freeList ++ l.flatMap (fun w => freedBlocks p p.slots[w])
  reports : ∃ posted, q.lnk = (postReports posted p).lnk ∧ (WindowsDistinct p → posted = l.flatMap (fun w => sealReports p p.slots[w]))
  rest : q = { p with
    channels := q.channels, plans := q.plans, slots := q.slots, freeList := q.freeList
    records := q.records, lanes := q.lanes, lnk := q.lnk }

theorem slotsSealed_nil (p : Part) : SlotsSealed [] p p where
  slots := fun _ => rfl
  plans := fun _ => rfl
  locks := fun _ => rfl
  handOver := ⟨rfl, rfl⟩
  freeList := fun _ => (List.append_nil _).symm
  reports := ⟨[], rfl, fun _ => rfl⟩
  rest := rfl

/-- One slot more is sealed. -/
theorem slotsSealed_concat {l : List (Fin 4)} {w : Fin 4} (hw : w ∉ l) {p q t : Part} (hq : SlotsSealed l p q) (ht : SlotSealed w q t) :
    SlotsSealed (l ++ [w]) p t := by
  have hslot : q.slots[w] = p.slots[w] := (hq.slots w).trans (if_neg hw)
  obtain ⟨hrecords, hlanes⟩ := hq.handOver
  have hunsent : WindowsDistinct p → ∀ x, p.slots[w] = some x →
      (findRecord q x.recordId).map unsent = (findRecord p x.recordId).map unsent := by
    intro hdistinct x hx
    rw [findRecord_congr hrecords]
    exact handSlots_unsent (fun v hv y hy => hdistinct v w y x (fun e => hw (e ▸ hv)) hy hx)
  constructor
  case slots =>
    intro v
    rw [ht.slots, hq.slots]
    by_cases hv : v = w
    · simp [hv]
    · simp [hv, Ne.symm hv]
  case plans =>
    intro i
    rw [ht.plans i, hq.plans i]
  case locks =>
    intro c
    rw [ht.locks, hq.locks, hslot, List.filter_append, List.length_append, List.filter_singleton]
    cases slotLocks c p.slots[w] <;> simp [Nat.sub_sub]
  case handOver =>
    obtain ⟨hr, hl⟩ := handSlot_congr p.slots[w] hrecords hlanes
    rw [handSlots_concat, ← hr, ← hl, ← hslot]
    exact ht.handOver
  case freeList =>
    intro hdistinct
    rw [ht.freeList, hq.freeList hdistinct, hslot, freedBlocks_congr (hunsent hdistinct)]
    simp
  case reports =>
    obtain ⟨posted, hlnk, hposted⟩ := hq.reports
    refine ⟨posted ++ sealReports q p.slots[w], ?_, fun hdistinct => ?_⟩
    · rw [ht.reports, hslot, postReports_append]
      exact postReports_lnk_congr _ hlnk
    · rw [hposted hdistinct, sealReports_congr (hunsent hdistinct)]
      simp
  case rest =>
    have h := ht.rest
    rw [hq.rest] at h
    exact h

/-- The seals of a list of slots, none of them twice, with no job pending. -/
theorem slotsSealed_foldl {p : Part} (hjobs : p.jobs = []) {l : List (Fin 4)} (hl : l.Nodup) :
    SlotsSealed l p (l.foldl (fun q w => sealWindow false w q) p) := by
  induction l using List.reverseRecOn with
  | nil => exact slotsSealed_nil p
  | append_singleton l w ih =>
    obtain ⟨hl, -, hw⟩ := List.nodup_append.1 hl
    rw [List.foldl_concat]
    exact slotsSealed_concat (fun h => hw w h w (List.mem_singleton_self w) rfl) (ih hl) (slotSealed_sealWindow w (sealWindows_slots l hjobs).1)

/-! ### The command in execution (R161) -/

/-- A seal leaves the command in its place. -/
theorem sealWindow_holding (w : Fin 4) (tag : Byte) (payload : List Byte) (p : Part) :
    sealWindow false w (p.holding tag payload) = (sealWindow false w p).holding tag payload := by
  cases hw : p.slots[w] with
  | none =>
    have hheld : (p.holding tag payload).slots[w] = none := hw
    simp only [sealWindow, hw, hheld]
  | some x =>
    have hheld : (p.holding tag payload).slots[w] = some x := hw
    rw [sealWindow_false hw, sealWindow_false hheld, ← reexamine_holding]
    cases hr : findRecord p x.recordId with
    | some r => rw [sealRecord_holding hr]
    | none =>
      have hlost : findRecord (p.holding tag payload) x.recordId = none := hr
      have hlocks := lowerLocks_channels_congr x.channels (p := p) (q := p.holding tag payload) rfl
      rw [sealRecord_unrecorded hr, sealRecord_unrecorded hlost, hlocks]
      rfl

end Sys2Proof.Machine
end

section
/-!
SUPPORT. A stop of the Sampler (R131, R132): what each of its steps leaves, and that the five together leave what StoppedFrom says; and the
obligations O14 and O15.
-/

namespace Sys2Proof.Machine

/-! ### Reports posted over a list -/

/-- Operations that post their own reports, each of which no other operation of the list decides, post them one after another. -/
theorem foldl_posts {ι : Type} {f : Part → ι → Part} {reports : Part → ι → List Report}
    (hposts : ∀ p a, (f p a).lnk = (postReports (reports p a) p).lnk) (hapart : ∀ p a b, a ≠ b → reports (f p a) b = reports p b) :
    ∀ {l : List ι}, l.Nodup → ∀ p : Part, (l.foldl f p).lnk = (postReports (l.flatMap (reports p)) p).lnk
  | [], _, _ => rfl
  | a :: l, hl, p => by
    obtain ⟨ha, hl⟩ := List.nodup_cons.1 hl
    have hothers : l.flatMap (reports (f p a)) = l.flatMap (reports p) :=
      List.flatMap_congr fun b hb => hapart p a b (fun e => ha (e ▸ hb))
    rw [List.foldl_cons, foldl_posts hposts hapart hl, hothers, List.flatMap_cons, postReports_append]
    exact postReports_lnk_congr _ (hposts p a)

/-- Posts add to the queued reports, in their order, as long as there is room for them (R164). -/
theorem postReports_room : ∀ {reports : List Report} {p : Part}, p.lnk.reports.length + reports.length ≤ 16 →
    (postReports reports p).lnk.reports.map (fun q => q.report) = p.lnk.reports.map (fun q => q.report) ++ reports
  | [], _, _ => (List.append_nil _).symm
  | r :: reports, p, h => by
    rw [List.length_cons] at h
    have hposted : (postReport r p).lnk.reports = p.lnk.reports ++ [{ lost := p.lnk.lost, report := r }] := by
      rcases postReport_spec r p with ⟨-, hp⟩ | ⟨hfull, -⟩
      · rw [hp]
      · omega
    have hroom : (postReport r p).lnk.reports.length + reports.length ≤ 16 := by
      rw [hposted, List.length_append, List.length_singleton]
      omega
    refine (postReports_room hroom).trans ?_
    rw [hposted]
    simp

/-- Posts keep the queued reports in front (R164). -/
theorem postReports_prefix (reports : List Report) (p : Part) : p.lnk.reports <+: (postReports reports p).lnk.reports :=
  List.foldlRecOn (motive := fun q : Part => p.lnk.reports <+: q.lnk.reports) reports _ List.prefix_rfl (fun q hq r _ => by
    rcases postReport_spec r q with ⟨-, hp⟩ | ⟨-, hp⟩ <;> rw [hp]
    · exact hq.trans (List.prefix_append _ _)
    · exact hq)

/-! ### The jobs (R131 step 2) -/

/-- The expired counter of a plan after the expiry of `k` of its jobs (R35). -/
def expiredCount (k n : Nat) : Nat :=
  if k = 0 then n else min (n + k) 65535

/-- A plan after the expiry of `k` of its jobs at a stop (R39). -/
def expiredPlan (k : Nat) (pl : Plan) : Plan :=
  { pl with counters := { pl.counters with expired := expiredCount k pl.counters.expired } }

theorem expiredCount_succ (k n : Nat) : expiredCount k (expiredCount 1 n) = expiredCount (k + 1) n := by
  have hsucc : ∀ m, expiredCount (m + 1) n = min (n + (m + 1)) 65535 := fun m => if_neg (Nat.succ_ne_zero m)
  rw [hsucc k, hsucc 0, expiredCount]
  split <;> omega

theorem expiredPlan_succ (k : Nat) (pl : Plan) : expiredPlan k (expiredPlan 1 pl) = expiredPlan (k + 1) pl := by
  simp only [expiredPlan, expiredCount_succ]

/-- The number of a plan's jobs in a list. -/
def planJobs (l : List Job) (i : Fin 8) : Nat :=
  (l.filter (fun j => j.plan == i)).length

/-- What the expiry of a list of jobs at a stop leaves of the part `p` in the part `q` (R39, R131 step 2). -/
structure JobsExpired (l : List Job) (p q : Part) : Prop where
  plans : ∀ i : Fin 8, q.plans[i] = expiredPlan (planJobs l i) p.plans[i]
  reports : q.lnk = (postReports (l.map fun j => .jobExpired j.plan j.tick .samplingStopped) p).lnk
  rest : q = { p with jobs := q.jobs, plans := q.plans, lnk := q.lnk }

theorem expireJob_plan (reason : ExpiryReason) (j : Job) (p : Part) (i : Fin 8) :
    (expireJob reason j p).plans[i] = if j.plan = i then expiredPlan 1 p.plans[i] else p.plans[i] := by
  rw [expireJob, postReport_plans, modifyPlan_get]
  split
  · rename_i hi
    rw [← hi]
    rfl
  · rfl

theorem expireJob_lnk (reason : ExpiryReason) (j : Job) (p : Part) :
    (expireJob reason j p).lnk = (postReport (.jobExpired j.plan j.tick reason) p).lnk :=
  postReport_lnk_congr _ rfl

theorem expireJob_rest (reason : ExpiryReason) (j : Job) (p : Part) : expireJob reason j p =
    { p with jobs := (expireJob reason j p).jobs, plans := (expireJob reason j p).plans, lnk := (expireJob reason j p).lnk } := by
  unfold expireJob
  rw [postReport_frame]
  rfl

theorem jobsExpired_foldl : ∀ (l : List Job) (p : Part), JobsExpired l p (l.foldl (fun q j => expireJob .samplingStopped j q) p)
  | [], _ => ⟨fun _ => rfl, rfl, rfl⟩
  | j :: l, p => by
    have h := jobsExpired_foldl l (expireJob .samplingStopped j p)
    rw [List.foldl_cons]
    constructor
    case plans =>
      intro i
      rw [h.plans, expireJob_plan, planJobs, planJobs, List.filter_cons]
      by_cases hi : j.plan = i
      · rw [if_pos hi, if_pos (beq_iff_eq.2 hi), expiredPlan_succ, List.length_cons]
      · rw [if_neg hi, if_neg (fun e => hi (beq_iff_eq.1 e))]
    case reports =>
      rw [h.reports]
      exact postReports_lnk_congr _ (expireJob_lnk .samplingStopped j p)
    case rest =>
      exact h.rest.trans (by rw [expireJob_rest .samplingStopped j p])

/-! ### The plans (R131 step 4) -/

/-- A plan after the halt of a stop (R39). -/
def stoppedPlan (pl : Plan) : Plan :=
  if stopsPlan pl then { pl with state := .halted, haltReason := some .samplingStopped } else pl

/-- The report of a plan's halt at a stop (R26). -/
def haltReports (p : Part) (i : Fin 8) : List Report :=
  if stopsPlan p.plans[i] then [.planState i .halted (some .samplingStopped) 0] else []

/-- The halt of one plan at a stop. -/
def haltForStop (p : Part) (i : Fin 8) : Part :=
  if stopsPlan p.plans[i] then haltPlan i .samplingStopped 0 p else p

theorem haltForStop_plan (p : Part) (i k : Fin 8) : (haltForStop p i).plans[k] = if i = k then stoppedPlan p.plans[k] else p.plans[k] := by
  unfold haltForStop stoppedPlan
  by_cases hi : i = k
  · subst hi
    rw [if_pos rfl]
    by_cases hstops : stopsPlan p.plans[i] = true
    · rw [if_pos hstops, if_pos hstops, haltPlan, postReport_plans, modifyPlan_get_self]
    · rw [if_neg hstops, if_neg hstops]
  · rw [if_neg hi]
    by_cases hstops : stopsPlan p.plans[i] = true
    · rw [if_pos hstops, haltPlan, postReport_plans, modifyPlan_get_other hi]
    · rw [if_neg hstops]

theorem haltForStop_lnk (p : Part) (i : Fin 8) : (haltForStop p i).lnk = (postReports (haltReports p i) p).lnk := by
  unfold haltForStop haltReports
  split
  · exact postReport_lnk_congr _ rfl
  · rfl

theorem haltForStop_rest (p : Part) (i : Fin 8) : haltForStop p i = { p with plans := (haltForStop p i).plans, lnk := (haltForStop p i).lnk } := by
  unfold haltForStop haltPlan
  split
  · rw [postReport_frame]
    rfl
  · rfl

/-- What the halts of a stop leave of the part `p` in the part `q`. -/
structure PlansStopped (p q : Part) : Prop where
  plans : ∀ i : Fin 8, q.plans[i] = stoppedPlan p.plans[i]
  reports : q.lnk = (postReports (allPlans.flatMap (haltReports p)) p).lnk
  rest : q = { p with plans := q.plans, lnk := q.lnk }

theorem plansStopped_foldl (p : Part) : PlansStopped p (allPlans.foldl haltForStop p) where
  plans := fun i => (foldl_entries (get := fun q i => q.plans[i]) (g := fun _ => stoppedPlan) haltForStop_plan (by decide) p i).trans
    (if_pos (mem_allPlans i))
  reports := foldl_posts haltForStop_lnk (fun q a b hab => by rw [haltReports, haltReports, haltForStop_plan, if_neg hab]) (by decide) p
  rest := List.foldlRecOn (motive := fun q : Part => q = { p with plans := q.plans, lnk := q.lnk }) allPlans haltForStop rfl
    (fun q hq i _ => (haltForStop_rest q i).trans (by rw [hq]))

/-! ### The passes (R131 step 5) -/

/-- A channel after the cancellation of its ONCE pass, if it has one (R146). -/
def cancelledChannel (c : Channel) : Channel :=
  if c.mode = .once then { c with mode := .manual, counted := none } else c

/-- The report of a cancelled pass (R146). -/
def passReports (p : Part) (c : Fin 8) : List Report :=
  if p.channels[c].mode = .once then [.rangeSettled c p.channels[c].range .cancelled] else []

theorem cancelPass_channel (p : Part) (c k : Fin 8) :
    (cancelPass c p).channels[k] = if c = k then cancelledChannel p.channels[k] else p.channels[k] := by
  unfold cancelPass cancelledChannel
  by_cases hc : c = k
  · subst hc
    rw [if_pos rfl]
    by_cases honce : p.channels[c].mode = .once
    · rw [if_pos honce, if_pos honce, endPass, postReport_channels, modifyChannel_get_self]
    · rw [if_neg honce, if_neg honce]
  · rw [if_neg hc]
    by_cases honce : p.channels[c].mode = .once
    · rw [if_pos honce, endPass, postReport_channels, modifyChannel_get_other hc]
    · rw [if_neg honce]

theorem cancelPass_lnk (p : Part) (c : Fin 8) : (cancelPass c p).lnk = (postReports (passReports p c) p).lnk := by
  unfold cancelPass passReports
  split
  · rw [endPass, modifyChannel_get_self]
    exact postReport_lnk_congr _ rfl
  · rfl

theorem cancelPass_rest (p : Part) (c : Fin 8) : cancelPass c p = { p with channels := (cancelPass c p).channels, lnk := (cancelPass c p).lnk } := by
  unfold cancelPass endPass
  split
  · rw [postReport_frame]
    rfl
  · rfl

/-- What the cancellations of a stop leave of the part `p` in the part `q`. -/
structure PassesCancelled (p q : Part) : Prop where
  channels : ∀ c : Fin 8, q.channels[c] = cancelledChannel p.channels[c]
  reports : q.lnk = (postReports (allChannels.flatMap (passReports p)) p).lnk
  rest : q = { p with channels := q.channels, lnk := q.lnk }

theorem passesCancelled_foldl (p : Part) : PassesCancelled p (allChannels.foldl (fun q c => cancelPass c q) p) where
  channels := fun c => (foldl_entries (get := fun q c => q.channels[c]) (g := fun _ => cancelledChannel) cancelPass_channel (by decide) p c).trans
    (if_pos (mem_allChannels c))
  reports := foldl_posts cancelPass_lnk (fun q a b hab => by rw [passReports, passReports, cancelPass_channel, if_neg hab]) (by decide) p
  rest := List.foldlRecOn (motive := fun q : Part => q = { p with channels := q.channels, lnk := q.lnk }) allChannels _ rfl
    (fun q hq c _ => (cancelPass_rest q c).trans (by rw [hq]))

end Sys2Proof.Machine
end

section
/-!
SUPPORT. A stop of the Sampler as a whole (R131, R132); and the obligations O14 and O15.
-/

namespace Sys2Proof.Machine

/-! ### The five steps together -/

/-- Posts change the reports and the lost count of the link alone (R164). -/
theorem postReports_link (reports : List Report) (p : Part) : (postReports reports p).lnk =
    { p.lnk with reports := (postReports reports p).lnk.reports, lost := (postReports reports p).lnk.lost } :=
  List.foldlRecOn (motive := fun q : Part => q.lnk = { p.lnk with reports := q.lnk.reports, lost := q.lnk.lost }) reports _ rfl
    (fun q hq r _ => by
      rcases postReport_spec r q with ⟨-, hp⟩ | ⟨-, hp⟩ <;> rw [hp, hq])

/-- The hand-overs depend on the slots, the records and the lanes alone. -/
theorem handSlots_congr {p q : Part} (hslots : q.slots = p.slots) (hrecords : q.records = p.records) (hlanes : q.lanes = p.lanes)
    (l : List (Fin 4)) : (handSlots q l).records = (handSlots p l).records ∧ (handSlots q l).lanes = (handSlots p l).lanes := by
  induction l using List.reverseRecOn with
  | nil => exact ⟨hrecords, hlanes⟩
  | append_singleton l w ih =>
    rw [handSlots_concat, handSlots_concat, hslots]
    exact handSlot_congr _ ih.1 ih.2

/-- The part as step 1 of a stop leaves it: the Sampler STOPPED, every latch cleared (R131, R45). -/
def stopCleared (p : Part) : Part :=
  { p with smp := { p.smp with running := false }, lines := p.lines.map (fun x => { x with latch := false }) }

/-- The stop step by step (R131). -/
theorem stopSampler_eq (p : Part) : stopSampler p = allChannels.foldl (fun q c => cancelPass c q) (allPlans.foldl haltForStop
    (allSlots.foldl (fun q w => sealWindow false w q) (p.jobs.foldl (fun q j => expireJob .samplingStopped j q) (stopCleared p)))) := by
  unfold stopSampler
  rw [clearLatches_eq]
  rfl

/-- The reports of a stop, where the seals report `sealed` (R131). -/
def stepReports (p : Part) (sealed : List Report) : List Report :=
  p.jobs.map (fun j => .jobExpired j.plan j.tick .samplingStopped) ++ (sealed ++ (allPlans.flatMap (haltReports p) ++ allChannels.flatMap (passReports p)))

/-- What the five steps of a stop leave of the part `p` in the part `t` (R131). -/
structure StopSteps (p t : Part) : Prop where
  sampler : t.smp = { p.smp with running := false }
  lines : t.lines = p.lines.map (fun x => { x with latch := false })
  jobs : t.jobs = []
  slots : ∀ w : Fin 4, t.slots[w] = none
  plans : ∀ i : Fin 8, t.plans[i] = stoppedPlan { expiredPlan (p.jobsPending i) p.plans[i] with openRecord := t.plans[i].openRecord }
  channels : ∀ c : Fin 8, t.channels[c] = cancelledChannel { p.channels[c] with
    lockCount := p.channels[c].lockCount - (allSlots.filter (fun w => slotLocks c p.slots[w])).length }
  handOver : t.records = (handSlots p allSlots).records ∧ t.lanes = (handSlots p allSlots).lanes
  freeList : WindowsDistinct p → t.freeList = p.freeList ++ allSlots.flatMap (fun w => freedBlocks p p.slots[w])
  reports : ∃ sealed, t.lnk = (postReports (stepReports p sealed) p).lnk ∧
    (WindowsDistinct p → sealed = allSlots.flatMap (fun w => sealReports p p.slots[w]))
  rest : t = { p with
    smp := t.smp, lines := t.lines, jobs := t.jobs, slots := t.slots, plans := t.plans, channels := t.channels
    freeList := t.freeList, records := t.records, lanes := t.lanes, lnk := t.lnk }

/-- A plan's halt changes its state and its reason, whatever its OPEN record. -/
theorem stoppedPlan_openRecord (pl : Plan) : (stoppedPlan pl).openRecord = pl.openRecord := by
  unfold stoppedPlan
  split <;> rfl

/-- The reports of the halts are those of the plans as they stand before the stop. -/
theorem haltReports_congr {p q : Part} {i : Fin 8} (h : q.plans[i].state = p.plans[i].state) : haltReports q i = haltReports p i := by
  have hstops : stopsPlan q.plans[i] = stopsPlan p.plans[i] := by simp only [stopsPlan, h]
  rw [haltReports, haltReports, hstops]

/-- The reports of the cancellations are those of the channels as they stand before the stop. -/
theorem passReports_congr {p q : Part} {c : Fin 8} (hmode : q.channels[c].mode = p.channels[c].mode)
    (hrange : q.channels[c].range = p.channels[c].range) : passReports q c = passReports p c := by
  simp only [passReports, hmode, hrange]

/-- The steps of a stop, one after another. -/
theorem stopSteps_of_steps {p expired closed halted t : Part} (hexpired : JobsExpired p.jobs (stopCleared p) expired) (hjobs : expired.jobs = [])
    (hclosed : SlotsSealed allSlots expired closed) (hhalted : PlansStopped closed halted) (hcancelled : PassesCancelled halted t) :
    StopSteps p t := by
  have hslots : expired.slots = p.slots := (congrArg Part.slots hexpired.rest :)
  have hrecords : expired.records = p.records := (congrArg Part.records hexpired.rest :)
  have hlanes : expired.lanes = p.lanes := (congrArg Part.lanes hexpired.rest :)
  have hchannels : expired.channels = p.channels := (congrArg Part.channels hexpired.rest :)
  have hlocked : halted.channels = closed.channels := (congrArg Part.channels hhalted.rest :)
  have hplans : t.plans = halted.plans := (congrArg Part.plans hcancelled.rest :)
  have hrest : t = { p with
      smp := (stopCleared p).smp, lines := (stopCleared p).lines, jobs := expired.jobs, slots := closed.slots, plans := halted.plans
      channels := t.channels, freeList := closed.freeList, records := closed.records, lanes := closed.lanes, lnk := t.lnk } := by
    have h := hcancelled.rest
    rw [hhalted.rest, hclosed.rest, hexpired.rest] at h
    exact h
  have hrecord : ∀ x : Window, (findRecord expired x.recordId).map unsent = (findRecord p x.recordId).map unsent :=
    fun x => by rw [findRecord_congr hrecords]
  have hdistinct : WindowsDistinct p → WindowsDistinct expired := by
    unfold WindowsDistinct
    rw [hslots]
    exact id
  obtain ⟨hhandedRecords, hhandedLanes⟩ := handSlots_congr hslots hrecords hlanes allSlots
  have hplan : ∀ i : Fin 8, closed.plans[i] = { expiredPlan (p.jobsPending i) p.plans[i] with openRecord := closed.plans[i].openRecord } :=
    fun i => (hclosed.plans i).trans (by rw [hexpired.plans i]; rfl)
  have hchannel : ∀ c : Fin 8, halted.channels[c] = { p.channels[c] with
      lockCount := p.channels[c].lockCount - (allSlots.filter (fun w => slotLocks c p.slots[w])).length } := by
    intro c
    rw [hlocked, hclosed.locks c, hchannels, hslots]
  constructor
  case sampler => exact congrArg Part.smp hrest
  case lines => exact congrArg Part.lines hrest
  case jobs => exact (congrArg Part.jobs hrest).trans hjobs
  case slots =>
    intro w
    have hempty : t.slots = closed.slots := (congrArg Part.slots hrest :)
    rw [hempty, hclosed.slots, if_pos (mem_allSlots w)]
  case plans =>
    intro i
    have hopen : t.plans[i].openRecord = closed.plans[i].openRecord := by
      rw [hplans, hhalted.plans i, stoppedPlan_openRecord]
    rw [hopen, ← hplan, hplans, hhalted.plans i]
  case channels => exact fun c => (hcancelled.channels c).trans (by rw [hchannel c])
  case handOver =>
    rw [← hhandedRecords, ← hhandedLanes]
    exact ⟨(congrArg Part.records hrest).trans hclosed.handOver.1, (congrArg Part.lanes hrest).trans hclosed.handOver.2⟩
  case freeList =>
    intro hd
    have hfree : t.freeList = closed.freeList := (congrArg Part.freeList hrest :)
    have hold : expired.freeList = p.freeList := (congrArg Part.freeList hexpired.rest :)
    rw [hfree, hclosed.freeList (hdistinct hd), hold, hslots]
    exact congrArg _ (List.flatMap_congr fun w _ => freedBlocks_congr fun x _ => hrecord x)
  case reports =>
    obtain ⟨sealed, hsealed, hposted⟩ := hclosed.reports
    refine ⟨sealed, ?_, fun hd => ?_⟩
    · have hpasses : allChannels.flatMap (passReports halted) = allChannels.flatMap (passReports p) :=
        List.flatMap_congr fun c _ => passReports_congr (by rw [hchannel c]) (by rw [hchannel c])
      have hhalts : allPlans.flatMap (haltReports closed) = allPlans.flatMap (haltReports p) :=
        List.flatMap_congr fun i _ => haltReports_congr (by rw [hplan i]; rfl)
      rw [hcancelled.reports, hpasses, stepReports, postReports_append, postReports_append, postReports_append]
      refine postReports_lnk_congr _ ?_
      rw [hhalted.reports, hhalts]
      refine postReports_lnk_congr _ (hsealed.trans (postReports_lnk_congr _ ?_))
      exact hexpired.reports.trans (postReports_lnk_congr _ rfl)
    · rw [hposted (hdistinct hd), hslots]
      exact List.flatMap_congr fun w _ => sealReports_congr fun x _ => hrecord x
  case rest =>
    rw [hrest]

theorem stopSteps_stopSampler (p : Part) : StopSteps p (stopSampler p) := by
  have hjobs := jobs_expireAll .samplingStopped p.jobs (stopCleared p) rfl
  rw [stopSampler_eq]
  exact stopSteps_of_steps (jobsExpired_foldl p.jobs (stopCleared p)) hjobs (slotsSealed_foldl hjobs (by decide)) (plansStopped_foldl _)
    (passesCancelled_foldl _)

/-! ### The stop as StoppedFrom says it -/

/-- The slots in ascending order. -/
theorem slots_toList (p : Part) : p.slots.toList = allSlots.map (fun w => p.slots[w]) := by
  refine List.ext_getElem (by simp [allSlots]) fun n hn _ => ?_
  have hfour : n < 4 := by simpa using hn
  interval_cases n <;> simp [allSlots]

/-- A list made slot by slot. -/
theorem slots_flatMap {α : Type} {f g : Option Window → List α} (h : ∀ o, f o = g o) (p : Part) :
    p.slots.toList.flatMap f = allSlots.flatMap (fun w => g p.slots[w]) := by
  rw [slots_toList, List.flatMap_map]
  exact List.flatMap_congr fun w _ => h p.slots[w]

/-- The reports of a stop in the order of its steps. -/
theorem stopReports_eq (p : Part) : stopReports p = stepReports p (allSlots.flatMap (fun w => sealReports p p.slots[w])) := by
  have hhalts : (List.finRange 8).flatMap (fun i => if p.plans[i].state = .running ∨ p.plans[i].state = .draining then
      [Report.planState i .halted (some .samplingStopped) 0] else []) = allPlans.flatMap (haltReports p) :=
    List.flatMap_congr fun i _ => by simp only [haltReports, stopsPlan_eq_true]
  rw [stopReports, stepReports, hhalts, List.append_assoc, List.append_assoc]
  refine congrArg₂ _ rfl (congrArg₂ _ (slots_flatMap (fun o => ?_) p) rfl)
  cases o with
  | none => rfl
  | some x =>
    rw [sealReports, Option.bind_some]
    dsimp only
    cases findRecord p x.recordId <;> rfl

/-- The hand-overs of a stop, slot by slot. -/
theorem slots_foldl {f : Part → Option Window → Part} (h : ∀ q o, f q o = handSlot q o) (p : Part) :
    p.slots.toList.foldl f p = handSlots p allSlots := by
  have hf : f = handSlot := funext fun q => funext (h q)
  rw [hf, slots_toList, List.foldl_map]
  rfl

/-- The windows that lock a channel, slot by slot. -/
theorem locking_eq (c : Fin 8) (p : Part) : (p.slots.toList.filter (fun o => o.any (fun w => w.channels.getLsbD c.val))).length =
    (allSlots.filter (fun w => slotLocks c p.slots[w])).length := by
  rw [slots_toList, List.filter_map, List.length_map]
  rfl

/-- A plan that the stop halts, and one that it leaves alone. -/
theorem stoppedPlan_of_stops {pl : Plan} (h : pl.state = .running ∨ pl.state = .draining) :
    stoppedPlan pl = { pl with state := .halted, haltReason := some .samplingStopped } :=
  if_pos (stopsPlan_eq_true.2 h)

theorem stoppedPlan_of_not_stops {pl : Plan} (h : pl.state ≠ .running ∧ pl.state ≠ .draining) : stoppedPlan pl = pl :=
  if_neg (by rw [stopsPlan_eq_false.2 h]; nofun)

/-- The steps of a stop leave what StoppedFrom says, where every plan is accounted for. -/
theorem stoppedFrom_of_steps {p t : Part} (h : StopSteps p t) (hp : Accounted p) (ht : Accounted t) : StoppedFrom p t := by
  have hopen : ∀ i : Fin 8, t.plans[i].openRecord = none := fun i => (planIdle_of_empty ht h.jobs h.slots i).1
  have hplan : ∀ i : Fin 8, t.plans[i] = stoppedPlan { expiredPlan (p.jobsPending i) p.plans[i] with openRecord := none } :=
    fun i => (h.plans i).trans (by rw [hopen i])
  obtain ⟨hrecords, hlanes⟩ := h.handOver
  have hwaiting : ∀ (id : Nat) (l : Fin 2), t.waiting id l = (handSlots p allSlots).waiting id l :=
    fun id l => waiting_congr (by rw [hlanes]) id
  obtain ⟨sealed, hlnk, hsealed⟩ := h.reports
  constructor
  case sampler => exact h.sampler
  case latches =>
    intro l
    rw [h.lines]
    exact Vector.getElem_map ..
  case noJob => exact h.jobs
  case noWindow => exact h.slots
  case halted =>
    intro i hi
    exact (hplan i).trans (stoppedPlan_of_stops hi)
  case otherPlans =>
    intro i hi
    obtain ⟨hclosed, hnone⟩ := accounted_idle hp (stopsPlan_eq_false.2 hi)
    refine ((hplan i).trans (stoppedPlan_of_not_stops hi)).trans ?_
    rw [hnone, ← hclosed]
    rfl
  case expired =>
    intro hroom
    have hposted := postReports_room (reports := p.jobs.map (fun j => .jobExpired j.plan j.tick .samplingStopped)) (p := p)
      (by rwa [List.length_map])
    rw [hlnk, stepReports, postReports_append]
    obtain ⟨others, hothers⟩ := postReports_prefix (sealed ++ (allPlans.flatMap (haltReports p) ++ allChannels.flatMap (passReports p)))
      (postReports (p.jobs.map (fun j => .jobExpired j.plan j.tick .samplingStopped)) p)
    rw [← hothers, List.map_append, hposted]
    exact List.take_left' (by simp)
  case reports =>
    intro hd
    rw [hlnk, hsealed hd, stopReports_eq]
    exact ⟨rfl, rfl⟩
  case handOvers =>
    intro u
    have hu : u = handSlots p allSlots := slots_foldl (fun q o => by cases o <;> rfl) p
    rw [hu]
    exact ⟨hrecords, hlanes⟩
  case records =>
    intro hd w x r hw hr hqueues
    obtain ⟨-, hwaits⟩ := handedAs_handSlots hd hw hr (fun l => waiting_eq_zero.2 (hqueues l)) (by decide) (mem_allSlots w)
    rw [← findRecord_congr hrecords, ← hwaiting] at hwaits
    refine hwaits.imp (fun ⟨hfound, hone⟩ => ⟨hfound, ?_⟩) And.left
    by_contra hgone
    rw [waiting_eq_zero.2 hgone] at hone
    cases hone
  case otherRecords =>
    intro id hwindows hqueues
    rw [findRecord_congr hrecords]
    exact (handSlots_other (fun w _ x hx => hwindows w x hx) (fun l => waiting_eq_zero.2 (hqueues l))).1
  case trimmed =>
    intro hd
    refine (h.freeList hd).trans (congrArg _ (slots_flatMap (fun o => ?_) p).symm)
    rw [freedBlocks]
    cases o.bind (fun x => findRecord p x.recordId) <;> rfl
  case channels =>
    intro c
    rw [h.channels c, locking_eq, cancelledChannel]
    split <;> rfl
  case history => exact ⟨(congrArg Part.history h.rest :), (congrArg Part.fill h.rest :)⟩
  case recordMemory =>
    refine ⟨(congrArg Part.blocks h.rest :), (congrArg Part.nextId h.rest :), ?_⟩
    rw [hrecords]
    exact handSlots_ids p allSlots
  case detectors => exact (congrArg Part.detectors h.rest :)

/-- Steps 1 to 5 of a stop leave what StoppedFrom says (R131, R132). -/
theorem stoppedFrom_stopSampler {p : Part} (hp : PlansAccounted p) : StoppedFrom p (stopSampler p) :=
  stoppedFrom_of_steps (stopSteps_stopSampler p) hp (accounted_stopSampler hp)

/-- A stop changes of the link its reports and their lost count alone. -/
theorem stopSampler_lnk (p : Part) : (stopSampler p).lnk =
    { p.lnk with reports := (stopSampler p).lnk.reports, lost := (stopSampler p).lnk.lost } := by
  obtain ⟨sealed, hlnk, -⟩ := (stopSteps_stopSampler p).reports
  rw [hlnk]
  exact postReports_link _ p

/-- A stop changes nothing else. -/
theorem stopSampler_frame (p : Part) : stopSampler p = { p with
    smp := (stopSampler p).smp, lines := (stopSampler p).lines, jobs := (stopSampler p).jobs, slots := (stopSampler p).slots
    plans := (stopSampler p).plans, channels := (stopSampler p).channels, freeList := (stopSampler p).freeList
    records := (stopSampler p).records, lanes := (stopSampler p).lanes
    lnk := { p.lnk with reports := (stopSampler p).lnk.reports, lost := (stopSampler p).lnk.lost } } := by
  rw [← stopSampler_lnk]
  exact (stopSteps_stopSampler p).rest

/-! ### SAMPLING_STOP -/

section Holding

variable (tag : Byte) (payload : List Byte) (p : Part)

theorem expireJob_holding (reason : ExpiryReason) (j : Job) :
    expireJob reason j (p.holding tag payload) = (expireJob reason j p).holding tag payload := by
  unfold expireJob
  rw [← postReport_holding]
  rfl

theorem haltForStop_holding (i : Fin 8) : haltForStop (p.holding tag payload) i = (haltForStop p i).holding tag payload := by
  unfold haltForStop
  rw [plans_holding, haltPlan_holding]
  split <;> rfl

/-- A stop leaves the command in its place. -/
theorem stopSampler_holding : stopSampler (p.holding tag payload) = (stopSampler p).holding tag payload := by
  have hcleared : stopCleared (p.holding tag payload) = (stopCleared p).holding tag payload := rfl
  have hjobs : (p.holding tag payload).jobs = p.jobs := rfl
  rw [stopSampler_eq, stopSampler_eq, hcleared, hjobs,
    List.foldl_hom (Part.holding tag payload) (fun q j => expireJob_holding tag payload q .samplingStopped j),
    List.foldl_hom (Part.holding tag payload) (fun q w => sealWindow_holding w tag payload q),
    List.foldl_hom (Part.holding tag payload) (fun q i => haltForStop_holding tag payload q i),
    List.foldl_hom (Part.holding tag payload) (fun q c => cancelPass_apart (apartFromRange_holding tag payload) c q)]

end Holding

/-- Settles O14: a stopped Sampler refuses, and a running one stops step by step. -/
theorem samplingStopEndsTheRun : Obligations.SamplingStopEndsTheRun := by
  intro s p tag hp haccepts haccounted
  have hsmp : (p.holding tag (encodeCommand .samplingStop)).smp = p.smp := rfl
  refine ⟨fun hstopped => onEvent_command hp haccepts .samplingStop ?_, fun hrunning =>
    ⟨stopSampler p, onEvent_command hp haccepts .samplingStop ?_, stoppedFrom_stopSampler haccounted, stopSampler_frame p⟩⟩
  · rw [runCommand, runSamplingStop, hsmp, if_neg (by rw [hstopped]; nofun)]
    exact refuse_holding haccepts.2.1 tag _ .badState
  · rw [runCommand, runSamplingStop, hsmp, if_pos hrunning, stopSampler_holding, begin_holding]
    rfl

/-! ### TICK_LIMIT_STOP -/

/-- The limit comes only to a RUNNING Sampler that has sampled tick 2^48 - 1 (R132). -/
theorem tickLimitStop_idle {p : Part} (h : p.smp.running = false ∨ p.smp.newest ≠ some 281474976710655) : tickLimitStop p = p := by
  refine if_neg fun ⟨hrunning, hlast⟩ => ?_
  rcases h with h | h
  · rw [h] at hrunning
    cases hrunning
  · exact h hlast

/-- The stop at the limit, its report, and the answer to a TRIGGER in execution (R132, R52). -/
theorem tickLimitStop_eq {p : Part} (hrunning : p.smp.running = true) (hlast : p.smp.newest = some 281474976710655) : tickLimitStop p =
    if p.trg.run.isSome = true then
      endTrigger .badState (triggerResults none 0 0) (postReport (.samplerStopped 281474976710655) (stopSampler p))
    else postReport (.samplerStopped 281474976710655) (stopSampler p) := by
  have htrg : (postReport (.samplerStopped 281474976710655) (stopSampler p)).trg = p.trg :=
    (postReport_trg _ _).trans (congrArg Part.trg (stopSampler_frame p) :)
  have hlimit : Config.lastTick = 281474976710655 := rfl
  unfold tickLimitStop
  rw [hlimit, if_pos ⟨hrunning, hlast⟩]
  dsimp only
  rw [htrg]

/-- The answer to a TRIGGER that the stop at the limit ends: no tick and empty masks (R132). -/
theorem triggerResults_none : triggerResults none 0 0 = [0, 0, 0, 0, 0, 0, 0, 0, 0] := rfl

/-- A post leaves the commands and the responses alone (R164). -/
theorem postReport_commands (r : Report) (p : Part) :
    (postReport r p).lnk.intake = p.lnk.intake ∧ (postReport r p).lnk.responses = p.lnk.responses := by
  rcases postReport_spec r p with ⟨-, hp⟩ | ⟨-, hp⟩ <;> rw [hp] <;> exact ⟨rfl, rfl⟩

/-- Settles O15: before the limit nothing, at it the stop and its report, and where a TRIGGER is in execution its answer. -/
theorem tickLimitStopEndsTheRun : Obligations.TickLimitStopEndsTheRun := by
  intro s p hp
  have hexec : exec .tickLimitStop s = .next (s.withPart (tickLimitStop p)) := (onEvent_eq tickLimitStop s).trans (by rw [hp])
  refine ⟨fun hidle => by rw [hexec, tickLimitStop_idle hidle], fun haccounted hrunning hlast =>
    ⟨stopSampler p, stoppedFrom_stopSampler haccounted, stopSampler_frame p, ?_⟩⟩
  obtain ⟨hintake, hresponses⟩ := postReport_commands (.samplerStopped 281474976710655) (stopSampler p)
  rw [stopSampler_lnk] at hintake hresponses
  have htrg : (postReport (.samplerStopped 281474976710655) (stopSampler p)).trg = p.trg :=
    (postReport_trg _ _).trans (congrArg Part.trg (stopSampler_frame p) :)
  rw [hexec, tickLimitStop_eq hrunning hlast, triggerResults_none]
  generalize postReport (.samplerStopped 281474976710655) (stopSampler p) = stopped at hintake hresponses htrg ⊢
  intro u
  refine ⟨fun hnone => ?_, fun r c behind hrun hcommands => ?_⟩
  · rw [if_neg (by rw [hnone]; nofun)]
  · rw [if_pos (by rw [hrun]; rfl), endTrigger_cons (hintake.trans hcommands), htrg, hresponses]

end Sys2Proof.Machine
end

section
/-!
SUPPORT. The locks of the channels (R68, R143): what a window's open, change and seal make of the lock counts, and that RNG and the lanes leave them to
CAP.
-/

namespace Sys2Proof.Machine

/-! ### Locks and windows -/

/-- Each lock count is the number of the windows that include its channel: LocksCountWindows, kept folded (R68, R143). -/
def Part.Locked (p : Part) : Prop :=
  ∀ c : Fin 8, p.channels[c].lockCount = p.slots.countP (slotLocks c)

theorem locksCountWindows_iff (p : Part) : LocksCountWindows p ↔ p.Locked := by
  have hcount : ∀ c : Fin 8, (p.slots.toList.filter (fun o => o.any (fun w => w.channels.getLsbD c.val))).length =
      p.slots.countP (slotLocks c) := fun c => List.countP_eq_length_filter.symm.trans Vector.countP_toList
  unfold LocksCountWindows Part.Locked
  simp only [hcount]

/-- What leaves every lock count and the slots alone. -/
theorem Part.Locked.of_locks {p q : Part} (h : p.Locked) (hlocks : ∀ c : Fin 8, q.channels[c].lockCount = p.channels[c].lockCount)
    (hslots : q.slots = p.slots) : q.Locked := by
  intro c
  rw [hlocks, hslots]
  exact h c

/-- Every lock count 0 beside no window. -/
theorem locked_of_none {p : Part} (hlocks : ∀ c : Fin 8, p.channels[c].lockCount = 0) (hslots : ∀ w : Fin 4, p.slots[w] = none) :
    p.Locked := by
  intro c
  rw [hlocks, eq_comm, Vector.countP_eq_zero]
  intro o ho
  obtain ⟨w, hw, rfl⟩ := Vector.mem_iff_getElem.1 ho
  have hnone : p.slots[w] = none := hslots ⟨w, hw⟩
  rw [hnone]
  nofun

/-- A channel that a window includes is locked. -/
theorem Part.Locked.pos {p : Part} (h : p.Locked) {c : Fin 8} {w : Fin 4} (hw : slotLocks c p.slots[w] = true) :
    0 < p.channels[c].lockCount := by
  rw [h c, Vector.countP_pos_iff]
  exact ⟨p.slots[w], Vector.getElem_mem _, hw⟩

/-- One slot written: each lock count moves by what the slot locked before and locks now. -/
theorem Part.Locked.of_slot {p q : Part} (h : p.Locked) {w : Fin 4} {o : Option Window} (hslots : q.slots = p.slots.set w.val o)
    (hlocks : ∀ c : Fin 8, q.channels[c].lockCount =
      p.channels[c].lockCount - (if slotLocks c p.slots[w] then 1 else 0) + (if slotLocks c o then 1 else 0)) : q.Locked := by
  intro c
  rw [hlocks, h c, hslots, Vector.countP_set]
  rfl

/-- A window changed without its channels keeps the locks. -/
theorem locked_setSlot {p : Part} {w : Fin 4} {x y : Window} (h : p.Locked) (hx : p.slots[w] = some x) (hchannels : y.channels = x.channels) :
    (setSlot w (some y) p).Locked := by
  refine h.of_slot (w := w) rfl fun c => ?_
  have hsame : slotLocks c (some y) = slotLocks c p.slots[w] := by rw [hx]; exact congrArg (fun s : ChannelSet => s.getLsbD c.val) hchannels
  rw [hsame]
  split
  · rename_i hlocked
    exact (Nat.sub_add_cancel (h.pos hlocked)).symm
  · rfl

/-- An open raises the locks of its channels as its window takes a free slot (R67, R68). -/
theorem locked_openWindow {p : Part} {w : Fin 4} {j : Job} {d : PlanDef} {pre blocks : Nat} (hopen : nextOpen p = some (w, j, d, pre, blocks))
    (h : p.Locked) : (openWindow w j d pre blocks p).Locked := by
  have hslots : (openWindow w j d pre blocks p).slots = p.slots.set w.val (some (newWindow j d pre (nextRecordId p))) :=
    congrArg Capture.slots (capture_openWindow w j d pre blocks p)
  refine h.of_slot hslots fun c => ?_
  have hraised : (openWindow w j d pre blocks p).channels = _ := raiseLocks_channels d.channels _
  rw [(nextOpen_spec hopen).1, hraised]
  exact congrArg Channel.lockCount (Vector.getElem_ofFn c.isLt)

theorem locked_reexamine {p : Part} (h : p.Locked) : (reexamine p).Locked :=
  reexamine_induct (fun _ _ _ _ _ _ hopen hq => locked_openWindow hopen hq) h

/-- A seal lowers the locks of its window's channels as it frees the slot (R68, R73). -/
theorem locked_sealRecord {slot : Fin 4} {w : Window} {p : Part} (hw : p.slots[slot] = some w) (h : p.Locked) :
    (sealRecord slot w p).Locked := by
  have hslots : (sealRecord slot w p).slots = p.slots.set slot.val none := congrArg Capture.slots (capture_sealRecord slot w p)
  exact h.of_slot hslots fun c => congrArg Channel.lockCount ((slotSealed_sealRecord slot hw).locks c)

/-! ### Changes beside the locks -/

theorem locked_foldl {α : Type} {f : Part → α → Part} (hf : ∀ p a, p.Locked → (f p a).Locked) (l : List α) {p : Part} (h : p.Locked) :
    (l.foldl f p).Locked :=
  List.foldlRecOn (motive := Part.Locked) l f h (fun q hq a _ => hf q a hq)

theorem locked_modifyPlan (i : Fin 8) (f : Plan → Plan) {p : Part} (h : p.Locked) : (modifyPlan i f p).Locked := h
theorem locked_modifyRecord (id : Nat) (f : Record → Record) {p : Part} (h : p.Locked) : (modifyRecord id f p).Locked := h
theorem locked_modifyDetector (c : Fin 8) (f : Detector → Detector) {p : Part} (h : p.Locked) : (modifyDetector c f p).Locked := h
theorem locked_modifyLine (l : Fin 4) (f : ExtLine → ExtLine) {p : Part} (h : p.Locked) : (modifyLine l f p).Locked := h
theorem locked_modifyLane (l : Fin 2) (f : Lane → Lane) {p : Part} (h : p.Locked) : (modifyLane l f p).Locked := h
theorem locked_withLnk (x : Link) {p : Part} (h : p.Locked) : Part.Locked { p with lnk := x } := h

theorem locked_postReport (r : Report) {p : Part} (h : p.Locked) : (postReport r p).Locked := by
  rw [postReport_frame]
  exact h

/-- A channel changed beside its lock count. -/
theorem locked_modifyChannel {c : Fin 8} {f : Channel → Channel} (hf : ∀ ch, (f ch).lockCount = ch.lockCount) {p : Part} (h : p.Locked) :
    (modifyChannel c f p).Locked := by
  refine h.of_locks (fun k => ?_) rfl
  rw [modifyChannel_get]
  split
  · rename_i hk
    rw [hf, hk]
  · rfl

theorem locked_freeAndReexamine (id : Nat) {p : Part} (h : p.Locked) : (freeAndReexamine id p).Locked := by
  refine locked_reexamine ?_
  rcases freeRecord_spec id p with ⟨-, hf⟩ | ⟨r, -, hf⟩ <;> rw [hf] <;> exact h

theorem locked_beginStaging (l : Fin 2) {p : Part} (h : p.Locked) : (beginStaging l p).Locked := by
  rw [beginStaging_frame]
  exact h

theorem locked_handOff (l : Fin 2) (id : Nat) {p : Part} (h : p.Locked) : (handOff l id p).Locked :=
  locked_beginStaging l (locked_modifyLane l _ h)

theorem locked_arbitrated {p : Part} (h : p.Locked) : (arbitrated p).Locked := by
  rw [arbitrated_frame]
  exact h

/-! ### RNG leaves the locks alone -/

theorem appendEntry_lockCount (e : LogEntry) (c : Channel) : (appendEntry e c).lockCount = c.lockCount := by
  unfold appendEntry
  repeat' split
  all_goals rfl

theorem logChange_lockCount (tick range : Nat) (c : Channel) : (logChange tick range c).lockCount = c.lockCount := by
  unfold logChange
  split
  · exact appendEntry_lockCount _ c
  · rfl

theorem observeCode_lockCount (code : SampleCode) (c : Channel) : (observeCode code c).lockCount = c.lockCount := by
  unfold observeCode
  split <;> rfl

theorem locked_applyRange (ch : Fin 8) (range : Nat) (once : Bool) {p : Part} (h : p.Locked) : (applyRange ch range once p).Locked :=
  locked_postReport _ (locked_modifyDetector ch _ (locked_modifyChannel (fun c => logChange_lockCount _ _ { c with range := range }) h))

theorem locked_endPass (ch : Fin 8) (outcome : PassOutcome) {p : Part} (h : p.Locked) : (endPass ch outcome p).Locked :=
  locked_postReport _ (locked_modifyChannel (fun _ => by rfl) h)

theorem locked_cancelPass (ch : Fin 8) {p : Part} (h : p.Locked) : (cancelPass ch p).Locked := by
  unfold cancelPass
  split
  · exact locked_endPass ch .cancelled h
  · exact h

theorem locked_trackDecision (ch : Fin 8) (d : SpanDecision) {p : Part} (h : p.Locked) : (trackDecision ch d p).Locked := by
  unfold trackDecision
  split
  · split
    · exact locked_applyRange ch _ false h
    · exact h
  · exact h

theorem locked_onceDecision (ch : Fin 8) (d : SpanDecision) {p : Part} (h : p.Locked) : (onceDecision ch d p).Locked := by
  unfold onceDecision
  split
  · extract_lets n counted
    have hcounted : counted.Locked := locked_modifyChannel (fun _ => by rfl) h
    split
    · exact locked_endPass ch .settled hcounted
    · extract_lets moved
      have hmoved : moved.Locked := locked_applyRange ch _ true hcounted
      split
      · exact locked_endPass ch .limit hmoved
      · exact hmoved
  · exact h

theorem locked_takeCode (ch : Fin 8) (code : SampleCode) {p : Part} (h : p.Locked) : (takeCode ch code p).Locked := by
  have htaken : (modifyChannel ch (codeIntoSpan code) p).Locked := locked_modifyChannel (fun _ => by rfl) h
  have hnew : (modifyChannel ch newSpan (modifyChannel ch (codeIntoSpan code) p)).Locked := locked_modifyChannel (fun _ => by rfl) htaken
  unfold takeCode endSpan
  dsimp only
  split
  · split
    · exact hnew
    · exact locked_trackDecision ch _ hnew
    · exact locked_onceDecision ch _ hnew
  · exact htaken

theorem locked_spanArrival (ch : Fin 8) {p : Part} (h : p.Locked) : (spanArrival ch p).Locked := by
  unfold spanArrival
  split
  · exact locked_takeCode ch _ (locked_modifyChannel (fun _ => by rfl) h)
  · exact h

theorem locked_settleSpans {p : Part} (h : p.Locked) : (settleSpans p).Locked :=
  locked_foldl (fun _ ch hq => locked_spanArrival ch hq) allChannels h

theorem locked_setRange (ch : Fin 8) (range : Nat) {p : Part} (h : p.Locked) : (setRange ch range p).Locked := by
  unfold setRange
  extract_lets settled tick
  refine locked_modifyDetector ch _ (locked_modifyChannel (fun c => ?_) (locked_spanArrival ch h))
  cases tick with
  | some t => exact appendEntry_lockCount _ _
  | none => rfl

theorem locked_setRangeMode (ch : Fin 8) (mode : RangeMode) {p : Part} (h : p.Locked) : (setRangeMode ch mode p).Locked :=
  locked_modifyChannel (fun _ => by rfl) (locked_cancelPass ch h)

/-! ### The lanes leave the locks alone -/

theorem locked_endStaging (l b : Fin 2) {p : Part} (h : p.Locked) : (endStaging l b p).Locked := by
  unfold endStaging
  split
  · exact locked_beginStaging l h
  · exact h
  · exact h

theorem locked_haltLane (l : Fin 2) (reason : LaneHalt) {p : Part} (h : p.Locked) : (haltLane l reason p).Locked :=
  locked_postReport _ (locked_modifyLane l _ h)

theorem locked_completeLane (l : Fin 2) {p : Part} (h : p.Locked) : (completeLane l p).Locked := by
  have hreleased : (modifyLane l releaseBuffer p).Locked := h
  unfold completeLane
  split
  · refine locked_beginStaging l ?_
    split
    · exact locked_haltLane l .host hreleased
    · exact hreleased
  · exact h

theorem locked_retryLane (l : Fin 2) {p : Part} (h : p.Locked) : (retryLane l p).Locked := by
  unfold retryLane
  extract_lets counted
  have hcounted : counted.Locked := h
  split
  · exact locked_haltLane l .retryLimit hcounted
  · exact hcounted

theorem locked_ackExpiry (l : Fin 2) {p : Part} (h : p.Locked) : (ackExpiry l p).Locked := by
  unfold ackExpiry
  split
  · exact locked_retryLane l h
  · exact h

theorem locked_backoffExpiry (l : Fin 2) {p : Part} (h : p.Locked) : (backoffExpiry l p).Locked := by
  unfold backoffExpiry
  split <;> exact h

theorem locked_laneMillisecond (l : Fin 2) {p : Part} (h : p.Locked) : (laneMillisecond l p).Locked := by
  unfold laneMillisecond
  split
  · split
    · exact locked_ackExpiry l h
    · exact h
  · split
    · exact locked_backoffExpiry l h
    · exact h
  · exact h

theorem locked_abandonRecord (l : Fin 2) (id : Nat) {p : Part} (h : p.Locked) : (abandonRecord l id p).Locked := by
  unfold abandonRecord
  dsimp only
  split <;> exact locked_beginStaging l (locked_postReport _ (locked_modifyLane l _ h))

theorem locked_clearHalt (l : Fin 2) {p : Part} (h : p.Locked) : (clearHalt l p).Locked :=
  locked_beginStaging l (locked_modifyLane l _ h)

/-- A completed delivery may free its record, and with it let windows open (R93, R13). -/
theorem locked_completeDelivery (l : Fin 2) (id : Nat) {p : Part} (h : p.Locked) : (completeDelivery l id p).Locked := by
  unfold completeDelivery
  extract_lets counted
  have hcounted : counted.Locked := h
  split
  · split
    · exact hcounted
    · exact locked_freeAndReexamine id hcounted
  · exact hcounted

theorem locked_acceptPacket (l : Fin 2) (a : Awaiting) {p : Part} (h : p.Locked) : (acceptPacket l a p).Locked := by
  unfold acceptPacket
  extract_lets final settled completed
  have hsettled : settled.Locked := h
  refine locked_beginStaging l (locked_modifyLane l _ ?_)
  unfold completed
  split
  · exact locked_completeDelivery l a.recordId hsettled
  · exact hsettled

theorem locked_staleAck (l : Fin 2) {p : Part} (h : p.Locked) : (staleAck l p).Locked := h

theorem locked_verdictEffect (l : Fin 2) (a : Awaiting) (v : Verdict) {p : Part} (h : p.Locked) : (verdictEffect l a v p).Locked := by
  have haccept := locked_acceptPacket l a h
  have hretry := locked_retryLane l h
  have hhalt := locked_haltLane l .host h
  have hstale := locked_staleAck l h
  have hheld := locked_modifyLane l heldLane h
  have hnoted := locked_modifyLane l (fun ln => { ln with haltNoted := true }) h
  unfold verdictEffect
  split <;> (try split) <;> assumption

theorem locked_ackArrives (lane seq verdict : Byte) {p : Part} (h : p.Locked) : (ackArrives lane seq verdict p).Locked := by
  have hhunt : (parserToHunt p).Locked := h
  unfold ackArrives takeAck
  dsimp only
  split
  · exact locked_verdictEffect _ _ _ hhunt
  · exact locked_staleAck _ hhunt

end Sys2Proof.Machine
end

section
/-!
SUPPORT. The locks in every step (R68, R143): of the owners' operations only opens and seals of windows, RESET FLUSH and a device reset move them; and
the invariant O59.
-/

namespace Sys2Proof.Machine

/-! ### Plans, windows and the Sampler -/

theorem locked_haltPlan (i : Fin 8) (reason : PlanHalt) (removed : Nat) {p : Part} (h : p.Locked) : (haltPlan i reason removed p).Locked :=
  locked_postReport _ (locked_modifyPlan i _ h)

theorem locked_planDoneIfIdle (i : Fin 8) {p : Part} (h : p.Locked) : (planDoneIfIdle i p).Locked := by
  unfold planDoneIfIdle
  split
  · exact locked_postReport _ (locked_modifyPlan i _ h)
  · exact h

theorem locked_expireJob (reason : ExpiryReason) (j : Job) {p : Part} (h : p.Locked) : (expireJob reason j p).Locked :=
  locked_postReport _ h

theorem locked_expireByHistory {p : Part} (h : p.Locked) : (expireByHistory p).Locked := by
  unfold expireByHistory
  split
  · exact h
  · exact locked_reexamine (locked_foldl (fun _ j hq => locked_planDoneIfIdle _ (locked_expireJob .history j hq)) _ h)

/-- A frame is stored into a window of the slot's channels (R71). -/
theorem locked_storeFrame {slot : Fin 4} {w x : Window} (tick : Nat) (codes : List SampleCode) {p : Part} (h : p.Locked)
    (hx : p.slots[slot] = some x) (hchannels : w.channels = x.channels) : (storeFrame slot w tick codes p).Locked := by
  unfold storeFrame
  split
  · exact locked_setSlot (p := modifyRecord w.recordId _ _) h hx hchannels
  · exact h

theorem locked_copyFrame (slot : Fin 4) {p : Part} (h : p.Locked) : (copyFrame slot p).Locked := by
  unfold copyFrame
  split
  · rename_i w hw
    split
    · split
      · exact locked_storeFrame _ _ h hw rfl
      · exact h
    · exact h
  · exact h

theorem locked_endCopy (slot : Fin 4) {p : Part} (h : p.Locked) : (endCopy slot p).Locked := by
  unfold endCopy
  split
  · rename_i w newest hw _
    split
    · exact locked_setSlot h hw rfl
    · exact h
  · exact h

theorem locked_copyBeforeLoss (tick : Nat) (slot : Fin 4) {p : Part} (h : p.Locked) : (copyBeforeLoss tick slot p).Locked := by
  unfold copyBeforeLoss
  split
  · split
    · exact locked_copyFrame slot h
    · exact h
  · exact h

theorem locked_liveTick (tick : Nat) (codes : Vector SampleCode 8) (slot : Fin 4) {p : Part} (h : p.Locked) :
    (liveTick tick codes slot p).Locked := by
  unfold liveTick
  split
  · rename_i w hw
    split
    · extract_lets w'
      have hchannels : w'.channels = w.channels := by
        unfold w'
        split <;> rfl
      split
      · exact locked_storeFrame _ _ h hw hchannels
      · exact locked_setSlot h hw hchannels
    · exact h
  · exact h

theorem locked_sealWindow (completes : Bool) (slot : Fin 4) {p : Part} (h : p.Locked) : (sealWindow completes slot p).Locked := by
  unfold sealWindow
  split
  · rename_i w hw
    have hsealed := locked_sealRecord hw h
    refine locked_reexamine ?_
    split
    · exact locked_planDoneIfIdle _ hsealed
    · exact hsealed
  · exact h

theorem locked_sealEnded (slot : Fin 4) {p : Part} (h : p.Locked) : (sealEnded slot p).Locked := by
  unfold sealEnded
  split
  · split
    · exact locked_sealWindow true slot h
    · exact h
  · exact h

theorem locked_triggerTick (tick : Nat) (codes : Vector SampleCode 8) {p : Part} (h : p.Locked) : (triggerTick tick codes p).Locked := by
  have hread : (readLatches p).Locked := locked_foldl (fun _ l hq => locked_modifyLine l _ hq) allLines h
  have hjudged : (judgeDetectors codes (readLatches p)).Locked := by
    refine locked_foldl (fun q ch hq => ?_) allChannels hread
    split
    · exact locked_modifyDetector ch _ hq
    · exact hq
  unfold triggerTick
  generalize judgeDetectors codes (readLatches p) = q at hjudged
  extract_lets soft sources judged
  split
  · exact hjudged
  · exact hjudged

theorem locked_writeHistory (tick : Nat) (codes : Vector SampleCode 8) {p : Part} (h : p.Locked) : (writeHistory tick codes p).Locked := by
  obtain ⟨fill, -, hwritten⟩ := writeHistory_spec tick codes p
  rw [hwritten]
  exact h

theorem locked_tickEvent (inputs : Vector Int 8) {p : Part} (h : p.Locked) : (tickEvent inputs p).Locked := by
  unfold tickEvent
  split
  · extract_lets tick settled codes copied written sampled triggered observed
    have hcopied : copied.Locked := locked_foldl (fun _ w hq => locked_copyBeforeLoss tick w hq) allSlots (locked_settleSpans h)
    have hwritten : written.Locked := locked_writeHistory tick codes hcopied
    clear_value written
    have hsampled : sampled.Locked := hwritten
    have hobserved : observed.Locked :=
      locked_foldl (fun _ ch hq => locked_modifyChannel (observeCode_lockCount codes[ch]) hq) _ (locked_triggerTick tick codes hsampled)
    exact locked_foldl (fun _ w hq => locked_liveTick tick codes w hq) allSlots hobserved
  · exact h

/-- A stop seals every window, and with it lets every lock go (R131 step 3). -/
theorem locked_stopSampler {p : Part} (h : p.Locked) : (stopSampler p).Locked := by
  have hsteps := stopSteps_stopSampler p
  refine locked_of_none (fun c => ?_) hsteps.slots
  have hcancelled : ∀ ch : Channel, (cancelledChannel ch).lockCount = ch.lockCount := fun ch => by
    unfold cancelledChannel
    split <;> rfl
  rw [hsteps.channels c, hcancelled, ← locking_eq, (locksCountWindows_iff p).2 h c, Nat.sub_self]

theorem locked_startSampler {p : Part} (h : p.Locked) : (startSampler p).Locked := by
  have hsettled := locked_settleSpans h
  rw [startSampler_eq]
  generalize settleSpans p = q at hsettled
  exact hsettled.of_locks (fun c => (congrArg Channel.lockCount (Vector.getElem_map startChannel (xs := q.channels) c.isLt) :)) rfl

theorem locked_judgeOffer (o : Offer) {p : Part} (h : p.Locked) : (judgeOffer o p).part.Locked := by
  refine List.foldlRecOn (motive := fun acc : Judged => acc.part.Locked) allPlans (judgePlan o) h (fun acc hacc i _ => ?_)
  unfold judgePlan
  split
  · exact hacc
  · split
    · exact hacc
    · rename_i reason _
      cases reason <;> exact locked_postReport _ hacc
    · exact hacc

/-! ### Commands -/

/-- RESET FLUSH clears the windows and the lock counts (R80, R151). -/
theorem locked_flush (p : Part) : (flush p).Locked := by
  unfold flush
  extract_lets emptied plans lanes
  rw [modifyChannel_all]
  refine locked_of_none (fun c => congrArg Channel.lockCount (Vector.getElem_map _ c.isLt)) (fun w => ?_)
  have hslots : lanes.slots = emptied.slots := (foldl_modifyPlan flushedPlan (l := allPlans) (by decide) emptied).2.1
  exact (congrArg (fun v : Vector (Option Window) 4 => v[w]) hslots).trans (Vector.getElem_replicate w.isLt)

theorem locked_stopAbort (i : Fin 8) {p : Part} (h : p.Locked) : (stopAbort i p).Locked := by
  unfold stopAbort
  extract_lets removed q
  have hq : q.Locked := h
  split
  · exact locked_reexamine (locked_haltPlan _ _ _ (locked_sealWindow false _ hq))
  · split
    · exact locked_haltPlan _ _ _ hq
    · exact locked_reexamine (locked_haltPlan _ _ _ hq)

theorem locked_stopGraceful (i : Fin 8) {p : Part} (h : p.Locked) : (stopGraceful i p).Locked := by
  unfold stopGraceful
  split
  · exact locked_planDoneIfIdle i h
  · exact h

theorem locked_runReset (mode : Byte) {p : Part} (h : p.Locked) : (runReset mode p).1.Locked := by
  unfold runReset
  split
  · exact h
  · exact locked_flush p
  · exact h

theorem locked_runSamplingSet (rate : Byte) (channels : BitVec 16) {p : Part} (h : p.Locked) :
    (runSamplingSet rate channels p).1.Locked := by
  unfold runSamplingSet
  repeat' split
  all_goals exact h

theorem locked_runSamplingStart {p : Part} (h : p.Locked) : (runSamplingStart p).1.Locked := by
  unfold runSamplingStart
  split
  · exact h
  · rw [taken_fst]
    exact locked_startSampler h

theorem locked_runSamplingStop {p : Part} (h : p.Locked) : (runSamplingStop p).1.Locked := by
  unfold runSamplingStop
  split
  · rw [takenInTime_fst]
    exact locked_stopSampler h
  · exact h

theorem locked_runRangeSet (channel range : Byte) {p : Part} (h : p.Locked) : (runRangeSet channel range p).1.Locked := by
  unfold runRangeSet
  split
  · exact h
  · split
    · exact h
    · split
      · exact h
      · split
        · exact h
        · split
          · exact h
          · exact locked_setRange _ _ h

theorem locked_runRangeMode (channel mode : Byte) {p : Part} (h : p.Locked) : (runRangeMode channel mode p).1.Locked := by
  unfold runRangeMode
  split
  · split
    · exact h
    · exact locked_setRangeMode _ _ h
  · exact h

theorem locked_runExtlineSet (line enabled edge : Byte) {p : Part} (h : p.Locked) : (runExtlineSet line enabled edge p).1.Locked := by
  unfold runExtlineSet
  split <;> exact h

theorem locked_runDetectorSet (channel enabled : Byte) (threshold hysteresis : BitVec 16) (direction : Byte) {p : Part} (h : p.Locked) :
    (runDetectorSet channel enabled threshold hysteresis direction p).1.Locked := by
  unfold runDetectorSet
  repeat' split
  all_goals exact h

theorem locked_runTrigger (mask : Byte) {p : Part} (h : p.Locked) : (runTrigger mask p).1.Locked := by
  unfold runTrigger
  repeat' split
  all_goals exact h

theorem locked_runPlanDefine (plan : Byte) (args : PlanArgs) {p : Part} (h : p.Locked) : (runPlanDefine plan args p).1.Locked := by
  unfold runPlanDefine
  repeat' split
  all_goals exact h

theorem locked_runPlanClear (plan : Byte) {p : Part} (h : p.Locked) : (runPlanClear plan p).1.Locked := by
  unfold runPlanClear
  repeat' split
  all_goals exact h

theorem locked_runPlanStart (plan : Byte) {p : Part} (h : p.Locked) : (runPlanStart plan p).1.Locked := by
  unfold runPlanStart
  repeat' split
  all_goals exact h

theorem locked_runPlanStop (plan mode : Byte) {p : Part} (h : p.Locked) : (runPlanStop plan mode p).1.Locked := by
  unfold runPlanStop
  split
  · split
    · exact locked_stopGraceful _ h
    · exact h
  · split
    · exact locked_stopAbort _ h
    · exact h
  · exact h

theorem locked_runRecordDiscard (id : BitVec 16) {p : Part} (h : p.Locked) : (runRecordDiscard id p).1.Locked := by
  unfold runRecordDiscard
  split
  · exact h
  · rename_i r _
    have hwithdrawn : (withdrawQueued r.lane r.id p).Locked := h
    split
    · exact h
    · exact locked_freeAndReexamine r.id hwithdrawn
    · exact locked_freeAndReexamine r.id (locked_abandonRecord r.lane r.id h)
    · exact locked_freeAndReexamine r.id h

theorem locked_runRecordRelease (id : BitVec 16) {p : Part} (h : p.Locked) : (runRecordRelease id p).1.Locked := by
  unfold runRecordRelease
  split
  · exact h
  · split
    · exact locked_freeAndReexamine _ h
    · exact h

theorem locked_runRecordReplay (id : BitVec 16) {p : Part} (h : p.Locked) : (runRecordReplay id p).1.Locked := by
  unfold runRecordReplay
  split
  · exact h
  · split
    · exact locked_handOff _ _ (locked_modifyRecord _ replayedRecord h)
    · exact h

theorem locked_runLaneSet (lane k : Byte) (ackTimeout backoff : BitVec 16) (retryLimit : Byte) {p : Part} (h : p.Locked) :
    (runLaneSet lane k ackTimeout backoff retryLimit p).1.Locked := by
  unfold runLaneSet
  repeat' split
  all_goals exact h

theorem locked_runLaneClearHalt (lane : Byte) {p : Part} (h : p.Locked) : (runLaneClearHalt lane p).1.Locked := by
  unfold runLaneClearHalt
  split
  · exact h
  · split
    · exact locked_clearHalt _ h
    · exact h

theorem locked_runCommand (c : Command) {p : Part} (h : p.Locked) : (runCommand c p).1.Locked := by
  cases c with
  | inquire => exact h
  | status => exact h
  | reset mode => exact locked_runReset mode h
  | samplingSet rate channels => exact locked_runSamplingSet rate channels h
  | samplingStart => exact locked_runSamplingStart h
  | samplingStop => exact locked_runSamplingStop h
  | rangeSet channel range => exact locked_runRangeSet channel range h
  | rangeMode channel mode => exact locked_runRangeMode channel mode h
  | channelGet channel => exact (runChannelGet_fst channel p).symm ▸ h
  | extlineSet line enabled edge => exact locked_runExtlineSet line enabled edge h
  | detectorSet channel enabled threshold hysteresis direction => exact locked_runDetectorSet _ _ _ _ _ h
  | trigger mask => exact locked_runTrigger mask h
  | planDefine plan definition => exact locked_runPlanDefine plan definition h
  | planClear plan => exact locked_runPlanClear plan h
  | planStart plan => exact locked_runPlanStart plan h
  | planStop plan mode => exact locked_runPlanStop plan mode h
  | planGet plan => exact (runPlanGet_fst plan p).symm ▸ h
  | recordList => exact h
  | recordDiscard id => exact locked_runRecordDiscard id h
  | recordRelease id => exact locked_runRecordRelease id h
  | recordReplay id => exact locked_runRecordReplay id h
  | laneSet lane k ackTimeout backoff retryLimit => exact locked_runLaneSet _ _ _ _ _ h
  | laneClearHalt lane => exact locked_runLaneClearHalt lane h
  | laneGet lane => exact (runLaneGet_fst lane p).symm ▸ h

/-! ### Answers, admissions and frames -/

theorem locked_answerHead (status : Status) (results : List Byte) {p : Part} (h : p.Locked) : (answerHead status results p).Locked := by
  unfold answerHead
  split <;> exact h

theorem locked_applyReply {x : Part × Reply} (h : x.1.Locked) : (applyReply x).Locked := by
  obtain ⟨p, reply⟩ := x
  cases reply with
  | done status results => exact locked_answerHead status results h
  | waits => exact h
  | takesTime => exact h
  | resets =>
    unfold applyReply answerReset
    dsimp only
    split <;> exact h

theorem locked_drain {p : Part} (h : p.Locked) : (drain p).Locked := by
  refine drain_induct (P := Part.Locked) (fun c _ q _ _ hq => locked_applyReply ?_) h
  unfold runPayload
  split
  · exact hq
  · exact hq
  · exact locked_runCommand _ hq

theorem locked_finishExecution {p : Part} (h : p.Locked) : (finishExecution p).Locked :=
  locked_drain (locked_answerHead .ok [] (locked_withLnk _ h))

theorem locked_endTrigger (status : Status) (results : List Byte) {p : Part} (h : p.Locked) : (endTrigger status results p).Locked :=
  locked_drain (locked_answerHead status results (p := { p with trg := { p.trg with run := none } }) h)

theorem locked_discardFrame (cause : LinkCause) (tag : Option Byte) {p : Part} (h : p.Locked) : (discardFrame cause tag p).Locked :=
  locked_postReport _ h

theorem locked_refuseFrame (tag : Byte) (payload : List Byte) (status : Status) {p : Part} (h : p.Locked) :
    (refuseFrame tag payload status p).Locked := by
  unfold refuseFrame
  split
  · exact h
  · exact locked_postReport _ h

theorem locked_commandArrives (tag : Byte) (payload : List Byte) {p : Part} (h : p.Locked) : (commandArrives tag payload p).Locked := by
  have hhunt : (parserToHunt p).Locked := h
  have hrefused := fun status => locked_refuseFrame tag payload status hhunt
  unfold commandArrives takeCommand
  split
  · exact hrefused _
  · split
    · exact hrefused _
    · split
      · exact hrefused _
      · exact locked_drain (locked_withLnk _ hhunt)

theorem locked_hostCommand (tag : Byte) (c : Command) {p : Part} (h : p.Locked) : (hostCommand tag c p).Locked :=
  locked_commandArrives tag (encodeCommand c) h

theorem locked_partFound (lanes : Fin 2 → Bool) {p : Part} (h : p.Locked) : (partFound lanes p).Locked := by
  rw [partFound_frame]
  exact h

theorem locked_startAfter (lanes : Fin 2 → Bool) (p : Part) {q : Part} (h : q.Locked) : (startAfter lanes p q).Locked := by
  unfold startAfter
  split
  · exact locked_arbitrated h
  · exact h

/-- A device reset leaves no window and no lock (R151, R171). -/
theorem locked_deviceReset (cause : ResetCause) (pins : ResetPins) (p : Part) : (deviceReset cause pins p).Locked :=
  locked_postReport _ (locked_of_none (fun c => congrArg Channel.lockCount (Vector.getElem_replicate c.isLt))
    (fun w => Vector.getElem_replicate w.isLt))

theorem locked_completeFrame (pins : ResetPins) {p : Part} (h : p.Locked) : (completeFrame pins p).Locked := by
  unfold completeFrame
  split
  · split
    · unfold cargoArrived
      split
      · exact locked_deviceReset .command pins _
      · exact h
      · exact h
      · exact locked_completeLane _ (locked_withLnk _ h)
    · exact h
  · exact h

theorem locked_frameStarts {p : Part} (h : p.Locked) : (frameStarts p).Locked := by
  unfold frameStarts
  split
  · exact locked_arbitrated (locked_finishExecution h)
  · exact h

/-! ### The parser, offers and time -/

theorem locked_judgeKind (kind tag : Byte) (payload : List Byte) {p : Part} (h : p.Locked) : (judgeKind kind tag payload p).Locked := by
  unfold judgeKind
  split
  · exact locked_commandArrives tag payload h
  · split
    · split
      · exact locked_ackArrives _ _ _ h
      · exact locked_discardFrame _ _ h
    · exact locked_discardFrame _ _ h

theorem locked_takeCheckByte (b : Byte) (x : Parser) {p : Part} (h : p.Locked) : (takeCheckByte b x p).Locked := by
  unfold takeCheckByte judgeFrame
  split
  · exact h
  · split
    · split
      · exact locked_judgeKind _ _ _ h
      · exact locked_discardFrame _ _ h
    · exact locked_discardFrame _ _ h

theorem locked_takeLengthByte (b : Byte) (x : Parser) {p : Part} (h : p.Locked) : (takeLengthByte b x p).Locked := by
  unfold takeLengthByte
  split
  · exact h
  · split
    · exact h
    · exact locked_discardFrame _ _ h

theorem locked_parseByte (b : Byte) {p : Part} (h : p.Locked) : (parseByte b p).Locked := by
  unfold parseByte
  split
  · split <;> exact h
  · exact locked_takeLengthByte b _ h
  · exact h
  · exact locked_takeCheckByte b _ h

theorem locked_byteArrives (b : Byte) (pins : ResetPins) {p : Part} (h : p.Locked) : (byteArrives b pins p).Locked := by
  have hexchanged : (exchangeByte p).Locked := h
  unfold byteArrives
  split
  · exact locked_parseByte b h
  · exact locked_completeFrame pins (locked_parseByte b hexchanged)

theorem locked_gapExpires {p : Part} (h : p.Locked) : (gapExpires p).Locked := by
  unfold gapExpires
  split
  · split
    · exact h
    · exact locked_discardFrame _ _ h
  · exact h

theorem locked_csRises {p : Part} (h : p.Locked) : (csRises p).Locked := by
  unfold csRises
  split
  · split
    · exact h
    · exact locked_discardFrame _ _ h
  · exact h

theorem locked_handleOffer (o : Offer) {p : Part} (h : p.Locked) : (handleOffer o p).Locked := by
  unfold handleOffer
  extract_lets judged examined
  have hjudged : judged.part.Locked := locked_judgeOffer o h
  have hexamined : examined.Locked := by
    unfold examined
    split
    · exact hjudged
    · exact locked_reexamine hjudged
  split
  · exact locked_endTrigger _ _ hexamined
  · exact hexamined

theorem locked_takeOffer {p : Part} (h : p.Locked) : (takeOffer p).Locked := by
  unfold takeOffer
  split
  · exact h
  · exact locked_handleOffer _ (p := { p with trg := _ }) h

theorem locked_tickLimitStop {p : Part} (h : p.Locked) : (tickLimitStop p).Locked := by
  unfold tickLimitStop
  split
  · extract_lets stopped
    have hstopped : stopped.Locked := locked_postReport _ (locked_stopSampler h)
    split
    · exact locked_endTrigger _ _ hstopped
    · exact hstopped
  · exact h

theorem locked_gapMillisecond {p : Part} (h : p.Locked) : (gapMillisecond p).Locked := by
  unfold gapMillisecond
  split
  · split
    · exact h
    · split
      · exact locked_gapExpires h
      · exact h
  · exact h

theorem locked_elapse {p : Part} (h : p.Locked) : (elapse p).Locked := by
  unfold elapse
  split
  · exact locked_finishExecution h
  · exact locked_gapMillisecond (locked_laneMillisecond 1 (locked_laneMillisecond 0 h))

/-! ### Every step keeps the locks counting the windows -/

theorem locked_onPart {f : Part → Part} (hf : ∀ {p}, p.Locked → (f p).Locked) {s t : State} (h : onPart f s = .next t) (hs : s.part.Locked) :
    t.part.Locked := by
  rw [onPart_next h]
  exact hf hs

theorem locked_onEvent {f : Part → Part} (hf : ∀ {p}, p.Locked → (f p).Locked) {s t : State} (h : onEvent f s = .next t)
    (hs : s.part.Locked) : t.part.Locked :=
  locked_onPart (fun hp => hf (locked_arbitrated hp)) h hs

theorem locked_onMeeting {lanes : Fin 2 → Bool} {f : Part → Part} (hf : ∀ {p}, p.Locked → (f p).Locked) {s t : State}
    (h : onMeeting lanes f s = .next t) (hs : s.part.Locked) : t.part.Locked :=
  locked_onPart (fun {p} hp => locked_startAfter lanes p (hf (locked_partFound lanes hp))) h hs

theorem locked_exec {i : Instr} {s t : State} (h : exec i s = .next t) (hs : s.part.Locked) : t.part.Locked := by
  cases i with
  | powerOn pins => exact locked_onPart (fun {p} _ => locked_deviceReset .power pins p) h hs
  | resetPin pins => exact locked_onPart (fun {p} _ => locked_deviceReset .pin pins p) h hs
  | extEdge line level => exact locked_onEvent (f := fun p => modifyLine line (edgeOnLine p.smp.running level) p) (fun hp => hp) h hs
  | tickEvent inputs => exact locked_onEvent (locked_tickEvent inputs) h hs
  | spanEnd channel => exact locked_onEvent (locked_spanArrival channel) h hs
  | tickLimitStop => exact locked_onEvent locked_tickLimitStop h hs
  | offer => exact locked_onEvent locked_takeOffer h hs
  | jobExpiry => exact locked_onEvent locked_expireByHistory h hs
  | copyEnd slot => exact locked_onEvent (locked_endCopy slot) h hs
  | windowSeal slot => exact locked_onEvent (locked_sealEnded slot) h hs
  | stagingEnd lane buffer => exact locked_onEvent (locked_endStaging lane buffer) h hs
  | frameStart => exact locked_onEvent locked_frameStarts h hs
  | frameComplete pins => exact locked_onEvent (locked_completeFrame pins) h hs
  | ack lane seq verdict => exact locked_onMeeting (locked_ackArrives lane seq verdict) h hs
  | ackTimerExpiry lane => exact locked_onEvent (locked_ackExpiry lane) h hs
  | backoffTimerExpiry lane => exact locked_onEvent (locked_backoffExpiry lane) h hs
  | commandFrame tag payload => exact locked_onMeeting (locked_commandArrives tag payload) h hs
  | frameDiscard fault tag => exact locked_onEvent (locked_discardFrame _ tag) h hs
  | gapExpiry => exact locked_onEvent locked_gapExpires h hs
  | csRise => exact locked_onEvent locked_csRises h hs
  | unknownCommand tag payload => exact locked_onMeeting (locked_commandArrives tag payload) h hs
  | resetFlush tag => exact locked_onMeeting (locked_hostCommand tag _) h hs
  | recordDiscard tag id => exact locked_onMeeting (locked_hostCommand tag _) h hs
  | inboundByte arrival => exact locked_onMeeting (locked_byteArrives arrival.value arrival.pins) h hs
  | catchUpCopyFrame slot => exact locked_onEvent (locked_copyFrame slot) h hs
  | _ => exact locked_onEvent (locked_hostCommand _ _) h hs

/-- Settles O59: an open and a seal move the locks with their window, RESET FLUSH and a device reset clear both, and nothing else touches a lock count
or a window's channels. -/
theorem everyStepKeepsLocksCountingWindows : Obligations.EveryStepKeepsLocksCountingWindows := by
  intro s t hstep hs
  rw [locksCountWindows_iff] at hs ⊢
  unfold step at hstep
  split at hstep
  · rename_i c rest _
    exact locked_exec (s := { s with pending := rest }) hstep hs
  · exact locked_onEvent locked_elapse hstep hs

end Sys2Proof.Machine
end

section
/-!
SUPPORT. The Range Controller's own events (Chapter 8): the end of a span with its evaluation (R139, R140, R145), RANGE_SET (R147), RANGE_MODE (R148), and
the four statements about them.
-/

namespace Sys2Proof.Machine

/-! ### Changes of one channel -/

/-- Two changes of a channel are one. -/
theorem modifyChannel_modifyChannel (ch : Fin 8) (f g : Channel → Channel) (p : Part) :
    modifyChannel ch g (modifyChannel ch f p) = modifyChannel ch (fun c => g (f c)) p := by
  unfold modifyChannel
  simp

theorem modifyChannel_congr {ch : Fin 8} {f g : Channel → Channel} {p : Part} (h : f p.channels[ch] = g p.channels[ch]) :
    modifyChannel ch f p = modifyChannel ch g p := by
  rw [modifyChannel, h, modifyChannel]

theorem modifyChannel_postReport (ch : Fin 8) (f : Channel → Channel) (r : Report) (p : Part) :
    modifyChannel ch f (postReport r p) = postReport r (modifyChannel ch f p) := by
  unfold postReport
  rw [modifyChannel_lnk]
  split <;> rfl

/-- A pass that ends, on a channel changed before (R145, R146). -/
theorem endPass_modifyChannel (ch : Fin 8) (outcome : PassOutcome) (f : Channel → Channel) (p : Part) :
    endPass ch outcome (modifyChannel ch f p) = postReport (.rangeSettled ch (f p.channels[ch]).range outcome)
      (modifyChannel ch (fun c => { f c with mode := .manual, counted := none }) p) := by
  unfold endPass
  dsimp only
  rw [modifyChannel_modifyChannel, modifyChannel_get_self]

/-! ### The range change log (R141) -/

/-- A channel with the count of its pass (R145). -/
def withCount (n : Nat) (c : Channel) : Channel :=
  { c with counted := some n }

theorem appendEntry_empty {c : Channel} (e : LogEntry) (h : c.log = []) : appendEntry e c = { c with log := [e] } := by
  unfold appendEntry
  rw [h]
  rfl

/-- An entry with the newest entry's tick takes its place. -/
theorem appendEntry_sameTick {c : Channel} {e last : LogEntry} {older : List LogEntry} (h : c.log = older ++ [last])
    (htick : last.tick = e.tick) : appendEntry e c = { c with log := older ++ [e] } := by
  unfold appendEntry
  rw [h, List.getLast?_concat, List.dropLast_concat]
  exact if_pos htick

/-- With room in the log an entry of another tick joins its tail. -/
theorem appendEntry_room {c : Channel} {e last : LogEntry} {older : List LogEntry} (h : c.log = older ++ [last])
    (htick : last.tick ≠ e.tick) (hroom : c.log.length < 8) : appendEntry e c = { c with log := c.log ++ [e] } := by
  have hlast : c.log.getLast? = some last := by rw [h, List.getLast?_concat]
  unfold appendEntry
  rw [hlast]
  exact (if_neg htick).trans (if_neg (Nat.not_le.2 hroom))

/-- A full log gives up its oldest entry to the base range and the base tick. -/
theorem appendEntry_full {c : Channel} {e last oldest : LogEntry} {older rest : List LogEntry} (h : c.log = older ++ [last])
    (htick : last.tick ≠ e.tick) (hlog : c.log = oldest :: rest) (hfull : 7 ≤ rest.length) :
    appendEntry e c = { c with log := rest ++ [e], baseRange := oldest.range, baseTick := oldest.tick } := by
  have hlast : (oldest :: rest).getLast? = some last := by rw [← hlog, h, List.getLast?_concat]
  have hlength : Config.logEntries ≤ (oldest :: rest).length := Nat.succ_le_succ hfull
  unfold appendEntry
  rw [hlog, hlast]
  exact (if_neg htick).trans (if_pos hlength)

/-- A log entry appended beside the count of a pass. -/
theorem appendEntry_withCount (e : LogEntry) (n : Nat) (c : Channel) : appendEntry e (withCount n c) = withCount n (appendEntry e c) := by
  rcases List.eq_nil_or_concat c.log with hempty | ⟨older, last, hlog⟩
  · rw [appendEntry_empty e hempty, appendEntry_empty (c := withCount n c) e hempty]
    rfl
  rw [List.concat_eq_append] at hlog
  by_cases htick : last.tick = e.tick
  · rw [appendEntry_sameTick hlog htick, appendEntry_sameTick (c := withCount n c) hlog htick]
    rfl
  by_cases hroom : c.log.length < 8
  · rw [appendEntry_room hlog htick hroom, appendEntry_room (c := withCount n c) hlog htick hroom]
    rfl
  · obtain ⟨oldest, rest, holdest⟩ : ∃ oldest rest, c.log = oldest :: rest := List.exists_cons_of_ne_nil (by simp [hlog])
    have hfull : 7 ≤ rest.length := by
      rw [holdest, List.length_cons] at hroom
      omega
    rw [appendEntry_full hlog htick holdest hfull, appendEntry_full (c := withCount n c) hlog htick holdest hfull]
    rfl

/-- A log change beside the count of a pass. -/
theorem logChange_withCount (tick range n : Nat) (c : Channel) :
    logChange tick range (withCount n c) = withCount n (logChange tick range c) := by
  unfold logChange
  by_cases htick : tick ≤ Config.lastTick
  · rw [if_pos htick, if_pos htick, appendEntry_withCount]
  · rw [if_neg htick, if_neg htick]

theorem logChange_range (tick range : Nat) (c : Channel) : (logChange tick range c).range = c.range := by
  unfold logChange appendEntry
  repeat' split
  all_goals rfl

/-! ### The end of a span (R138, R139) -/

/-- A channel as it stands at the beginning of the span after the one that its waiting code has ended (R138). -/
def spanEnded (c : Channel) : Channel :=
  { c with arriving := none, spanPos := 0, spanPeak := 0, spanClip := false }

/-- The decision on the span that a code ends (R139). -/
def endDecision (ch : Fin 8) (code : SampleCode) (c : Channel) : SpanDecision :=
  spanDecision ch c.range (max c.spanPeak (magnitude code)) (c.spanClip || isEndCode code)

/-- The range after the evaluation of a span (R139). -/
def evaluatedRange (ch : Fin 8) (range peak : Nat) (clip : Bool) : Nat :=
  if (clip = true ∨ 28672 < peak) ∧ 0 < range then range - 1
  else if peak < 12288 ∧ range < (if ch.val < 6 then 7 else 3) then range + 1
  else range

/-- The decision moves the range where the evaluation gives another one. -/
theorem decidedRange_spanDecision (ch : Fin 8) (range peak : Nat) (clip : Bool) :
    decidedRange range (spanDecision ch range peak clip) =
      if evaluatedRange ch range peak clip = range then none else some (evaluatedRange ch range peak clip) := by
  have hmax : maxRange ch = if ch.val < 6 then 7 else 3 := rfl
  unfold spanDecision evaluatedRange
  simp only [← hmax, Bool.and_eq_true, Bool.or_eq_true, decide_eq_true_eq]
  split
  · rename_i hwiden
    exact (if_neg (by omega)).symm
  · split
    · exact (if_neg (by omega)).symm
    · exact (if_pos rfl).symm

/-- What the waiting code does where it brings the span to 256 ticks: a new span starts, and the mode says what the decision comes to (R139). -/
theorem spanArrival_ends {ch : Fin 8} {code : SampleCode} {p : Part} (harriving : p.channels[ch].arriving = some code)
    (hend : 256 ≤ p.channels[ch].spanPos + 1) :
    spanArrival ch p = match p.channels[ch].mode with
      | .manual => modifyChannel ch spanEnded p
      | .track => trackDecision ch (endDecision ch code p.channels[ch]) (modifyChannel ch spanEnded p)
      | .once => onceDecision ch (endDecision ch code p.channels[ch]) (modifyChannel ch spanEnded p) := by
  unfold spanArrival takeCode
  simp only [harriving, modifyChannel_get_self]
  refine (if_pos hend).trans ?_
  unfold endSpan
  simp only [modifyChannel_modifyChannel, modifyChannel_get_self]
  rfl

/-- A waiting code that does not end the span goes into it (R138). -/
theorem spanArrival_joins {ch : Fin 8} {code : SampleCode} {p : Part} (harriving : p.channels[ch].arriving = some code)
    (hroom : ¬ 256 ≤ p.channels[ch].spanPos + 1) :
    spanArrival ch p = modifyChannel ch (fun c => codeIntoSpan code { c with arriving := none }) p := by
  unfold spanArrival takeCode
  simp only [harriving, modifyChannel_modifyChannel, modifyChannel_get_self]
  exact if_neg hroom

/-- A range decided on, on a channel changed before (R140): the change logged, the detector set to UNKNOWN, RANGE_CHANGED posted. -/
theorem applyRange_modifyChannel (ch : Fin 8) (range : Nat) (once : Bool) (f : Channel → Channel) (p : Part) :
    applyRange ch range once (modifyChannel ch f p) = postReport (.rangeChanged ch (f p.channels[ch]).range range once)
      (detectorUnknown ch (modifyChannel ch (fun c => logChange (followingTick p) range { f c with range := range }) p)) := by
  unfold applyRange
  dsimp only
  rw [modifyChannel_modifyChannel, modifyChannel_get_self]
  rfl

/-- A pass that ends with a range decided on, on a channel changed before (R145). -/
theorem endPass_applyRange (ch : Fin 8) (outcome : PassOutcome) (range : Nat) (once : Bool) (f : Channel → Channel) (p : Part) :
    endPass ch outcome (applyRange ch range once (modifyChannel ch f p)) =
      postReport (.rangeSettled ch range outcome) (postReport (.rangeChanged ch (f p.channels[ch]).range range once)
        (detectorUnknown ch (modifyChannel ch (fun c =>
          { logChange (followingTick p) range { f c with range := range } with mode := .manual, counted := none }) p))) := by
  have hdetector : ∀ (g : Channel → Channel) (q : Part), modifyChannel ch g (detectorUnknown ch q) = detectorUnknown ch (modifyChannel ch g q) :=
    fun _ _ => rfl
  rw [applyRange_modifyChannel]
  unfold endPass
  dsimp only
  rw [modifyChannel_postReport, hdetector, modifyChannel_modifyChannel, postReport_channels]
  simp only [detectorUnknown, modifyDetector_channels, modifyChannel_get_self, logChange_range]

/-- The range that the span ended by a code leaves its channel (R139). -/
def rangeAfter (ch : Fin 8) (code : SampleCode) (c : Channel) : Nat :=
  evaluatedRange ch c.range (max c.spanPeak (magnitude code)) (c.spanClip || isEndCode code)

/-- The decision on the span that a code ends, as the range that it moves to. -/
theorem decidedRange_endDecision (ch : Fin 8) (code : SampleCode) (c : Channel) :
    decidedRange c.range (endDecision ch code c) = if rangeAfter ch code c = c.range then none else some (rangeAfter ch code c) :=
  decidedRange_spanDecision _ _ _ _

/-- The end of a span where nothing but the span changes (R139, R143): in MANUAL, and with a lock in TRACK and ONCE. -/
theorem spanArrival_keeps {ch : Fin 8} {code : SampleCode} {p : Part} (harriving : p.channels[ch].arriving = some code)
    (hend : 256 ≤ p.channels[ch].spanPos + 1) (hkeeps : p.channels[ch].mode = .manual ∨ 0 < p.channels[ch].lockCount) :
    spanArrival ch p = modifyChannel ch spanEnded p := by
  have hlock : (modifyChannel ch spanEnded p).channels[ch].lockCount = p.channels[ch].lockCount := by
    rw [modifyChannel_get_self]
    rfl
  rw [spanArrival_ends harriving hend]
  rcases hkeeps with hmanual | hlocked
  · rw [hmanual]
  · split
    · rfl
    · unfold trackDecision
      rw [hlock]
      split
      · exact if_neg hlocked.ne'
      · rfl
    · unfold onceDecision
      rw [hlock, if_neg hlocked.ne']

/-- The end of a span in TRACK without a lock (R139, R140). -/
theorem spanArrival_track {ch : Fin 8} {code : SampleCode} {p : Part} (harriving : p.channels[ch].arriving = some code)
    (hend : 256 ≤ p.channels[ch].spanPos + 1) (htrack : p.channels[ch].mode = .track) (hlock : p.channels[ch].lockCount = 0) :
    spanArrival ch p =
      if rangeAfter ch code p.channels[ch] = p.channels[ch].range then modifyChannel ch spanEnded p
      else applyRange ch (rangeAfter ch code p.channels[ch]) false (modifyChannel ch spanEnded p) := by
  have hrange : (modifyChannel ch spanEnded p).channels[ch].range = p.channels[ch].range := by
    rw [modifyChannel_get_self]
    rfl
  have hlock' : (modifyChannel ch spanEnded p).channels[ch].lockCount = 0 := by
    rw [modifyChannel_get_self]
    exact hlock
  rw [spanArrival_ends harriving hend, htrack]
  unfold trackDecision
  rw [hrange, decidedRange_endDecision, hlock']
  by_cases hsame : rangeAfter ch code p.channels[ch] = p.channels[ch].range
  · rw [if_pos hsame, if_pos hsame]
  · rw [if_neg hsame, if_neg hsame]
    exact if_pos rfl

/-- The end of a span in a ONCE pass without a lock (R145). -/
theorem spanArrival_once {ch : Fin 8} {code : SampleCode} {n : Nat} {p : Part} (harriving : p.channels[ch].arriving = some code)
    (hend : 256 ≤ p.channels[ch].spanPos + 1) (honce : p.channels[ch].mode = .once) (hlock : p.channels[ch].lockCount = 0)
    (hcounted : p.channels[ch].counted = some n) :
    spanArrival ch p =
      let counted := modifyChannel ch (fun c => withCount (n + 1) (spanEnded c)) p
      let moved := applyRange ch (rangeAfter ch code p.channels[ch]) true counted
      if rangeAfter ch code p.channels[ch] = p.channels[ch].range then endPass ch .settled counted
      else if n + 1 < 8 then moved
      else endPass ch .limit moved := by
  have hlock' : (modifyChannel ch spanEnded p).channels[ch].lockCount = 0 := by
    rw [modifyChannel_get_self]
    exact hlock
  have hcounted' : (modifyChannel ch spanEnded p).channels[ch].counted = some n := by
    rw [modifyChannel_get_self]
    exact hcounted
  have hrange : (modifyChannel ch (fun c => withCount (n + 1) (spanEnded c)) p).channels[ch].range = p.channels[ch].range := by
    rw [modifyChannel_get_self]
    rfl
  have hcount : modifyChannel ch (fun c => { c with counted := some (n + 1) }) (modifyChannel ch spanEnded p) =
      modifyChannel ch (fun c => withCount (n + 1) (spanEnded c)) p := modifyChannel_modifyChannel ch _ _ p
  rw [spanArrival_ends harriving hend, honce]
  unfold onceDecision
  simp only [hlock', hcounted', if_true, Option.getD_some, hcount, hrange, decidedRange_endDecision]
  by_cases hsame : rangeAfter ch code p.channels[ch] = p.channels[ch].range
  · rw [if_pos hsame, if_pos hsame]
  · rw [if_neg hsame, if_neg hsame]
    by_cases hmore : n + 1 < 8
    · rw [if_pos hmore]
      exact if_neg (Nat.not_le.2 hmore)
    · rw [if_neg hmore]
      exact if_pos (Nat.not_lt.1 hmore)

/-! ### SPAN_END -/

theorem exec_spanEnd {s : State} {p : Part} (hp : arbitrated s.part = p) (ch : Fin 8) :
    exec (.spanEnd ch) s = .next (s.withPart (spanArrival ch p)) := by
  subst hp
  exact onEvent_eq (spanArrival ch) s

/-- Settles O16: nothing but the span, and in TRACK without a lock the range that the evaluation gives. -/
theorem spanEndMovesAnUnlockedTrackRange : Obligations.SpanEndMovesAnUnlockedTrackRange := by
  intro s p ch code hp c harriving hpos fresh peak clip range tick
  have hend : 256 ≤ p.channels[ch].spanPos + 1 := Nat.le_of_eq (congrArg (· + 1) hpos).symm
  refine ⟨fun hkeeps => ?_, fun htrack hlock => ?_⟩
  · rw [exec_spanEnd hp, spanArrival_keeps harriving hend hkeeps]
    rfl
  · have hrange : rangeAfter ch code p.channels[ch] = range := by
      unfold rangeAfter isEndCode
      rw [← Bool.or_assoc]
      rfl
    rw [exec_spanEnd hp, spanArrival_track harriving hend htrack hlock, hrange, applyRange_modifyChannel]
    rfl

/-- Settles O17: the pass ends as SETTLED where the range stays, and as LIMIT where the eighth counted span moves it. -/
theorem spanEndCountsTowardAOncePass : Obligations.SpanEndCountsTowardAOncePass := by
  intro s p ch code n hp c harriving hpos honce hlock hcounted fresh peak clip range tick logged
  have hend : 256 ≤ p.channels[ch].spanPos + 1 := Nat.le_of_eq (congrArg (· + 1) hpos).symm
  have hrange : rangeAfter ch code p.channels[ch] = range := by
    unfold rangeAfter isEndCode
    rw [← Bool.or_assoc]
    rfl
  have hlogged : logChange (followingTick p) range { withCount (n + 1) (spanEnded c) with range := range } = withCount (n + 1) logged :=
    logChange_withCount _ _ (n + 1) { spanEnded c with range := range }
  rw [exec_spanEnd hp, spanArrival_once harriving hend honce hlock hcounted, hrange]
  refine congrArg (fun q => Host.Outcome.next (s.withPart q)) (if_congr Iff.rfl ?settled (if_congr Iff.rfl ?moved ?limit))
  case settled => exact endPass_modifyChannel ch .settled _ p
  case moved =>
    rw [applyRange_modifyChannel]
    exact congrArg (fun x => postReport _ (detectorUnknown ch (modifyChannel ch (fun _ => x) p))) hlogged
  case limit =>
    have hlimit : ({ logChange (followingTick p) range { withCount (n + 1) (spanEnded c) with range := range } with
        mode := .manual, counted := none } : Channel) = { logged with mode := .manual, counted := none } := by
      rw [hlogged]
      rfl
    rw [endPass_applyRange]
    exact congrArg (fun x => postReport _ (postReport _ (detectorUnknown ch (modifyChannel ch (fun _ => x) p)))) hlimit

/-! ### RANGE_SET -/

/-- What the code on its way to RNG leaves of a MANUAL channel: it goes into the span, or ends it (R138, R139). -/
def codeTaken (c : Channel) : Channel :=
  match c.arriving with
  | none => c
  | some code =>
    if 256 ≤ c.spanPos + 1 then spanEnded c
    else { c with
      arriving := none
      spanPos := c.spanPos + 1
      spanPeak := max c.spanPeak code.toInt.natAbs
      spanClip := c.spanClip || decide (code = 0x8000) || decide (code = 0x7FFF) }

theorem spanArrival_manual {ch : Fin 8} {p : Part} (hmanual : p.channels[ch].mode = .manual) :
    spanArrival ch p = modifyChannel ch codeTaken p := by
  cases harriving : p.channels[ch].arriving with
  | none =>
    have hsame : modifyChannel ch codeTaken p = modifyChannel ch id p := modifyChannel_congr (by simp only [codeTaken, harriving, id])
    rw [hsame]
    unfold spanArrival
    rw [harriving, modifyChannel]
    exact congrArg (fun v => { p with channels := v }) (Vector.set_getElem_self ch.isLt).symm
  | some code =>
    by_cases hend : 256 ≤ p.channels[ch].spanPos + 1
    · rw [spanArrival_keeps harriving hend (.inl hmanual)]
      exact modifyChannel_congr (by simp only [codeTaken, harriving, if_pos hend])
    · rw [spanArrival_joins harriving hend]
      exact modifyChannel_congr (by simp only [codeTaken, codeIntoSpan_eq, harriving, if_neg hend])

/-- A MANUAL channel after a RANGE_SET that moves its range (R147): the range set, and logged while the run can sample another tick. -/
def rangeMoved (m : Sampler) (range : Nat) (c : Channel) : Channel :=
  if m.running = true ∧ m.newest ≠ some 281474976710655 then
    appendEntry { tick := m.tickCounter, range := range } { codeTaken c with range := range }
  else { codeTaken c with range := range }

theorem setRange_manual {ch : Fin 8} {p : Part} (hmanual : p.channels[ch].mode = .manual) (range : Nat) :
    setRange ch range p = detectorUnknown ch (modifyChannel ch (rangeMoved p.smp range) p) := by
  have htakes : takesTick p.smp = true ↔ p.smp.running = true ∧ p.smp.newest ≠ some 281474976710655 := by
    unfold takesTick
    rw [Bool.and_eq_true, decide_eq_true_eq]
    rfl
  have htick : rangeSetTick (modifyChannel ch codeTaken p) = if takesTick p.smp then some p.smp.tickCounter else none := rfl
  unfold setRange
  dsimp only
  rw [spanArrival_manual hmanual, htick, modifyChannel_modifyChannel]
  refine congrArg (detectorUnknown ch) (modifyChannel_congr ?_)
  unfold rangeMoved
  by_cases h : takesTick p.smp = true
  · rw [if_pos h, if_pos (htakes.1 h)]
  · rw [if_neg h, if_neg (mt htakes.2 h)]

theorem setRange_holding (tag : Byte) (payload : List Byte) (ch : Fin 8) (range : Nat) (p : Part) :
    setRange ch range (p.holding tag payload) = (setRange ch range p).holding tag payload := by
  unfold setRange
  dsimp only
  rw [spanArrival_apart (apartFromRange_holding tag payload)]
  rfl

theorem channelArg_of_lt {channel : Byte} (h : channel.toNat < 8) : channelArg channel = some ⟨channel.toNat, h⟩ :=
  dif_pos h

theorem channelArg_of_ge {channel : Byte} (h : ¬ channel.toNat < 8) : channelArg channel = none :=
  dif_neg h

/-- RANGE_SET by its checks in order, for a channel (R147). -/
theorem runRangeSet_reply {p : Part} (hin : p.lnk.intake = []) {channel : Byte} {ch : Fin 8} (hch : channelArg channel = some ch)
    (tag : Byte) (payload : List Byte) (range : Byte) :
    applyReply (runRangeSet channel range (p.holding tag payload)) =
      if maxRange ch < range.toNat then Part.answered tag (payloadCode payload) .badArg [] p
      else if p.channels[ch].mode ≠ .manual then Part.answered tag (payloadCode payload) .badState [] p
      else if 0 < p.channels[ch].lockCount then Part.answered tag (payloadCode payload) .locked [] p
      else if p.channels[ch].range = range.toNat then Part.answered tag (payloadCode payload) .ok [] p
      else Part.answered tag (payloadCode payload) .ok [] (detectorUnknown ch (modifyChannel ch (rangeMoved p.smp range.toNat) p)) := by
  have hchannels : (p.holding tag payload).channels = p.channels := rfl
  unfold runRangeSet
  rw [hch]
  dsimp only
  rw [hchannels]
  by_cases hmax : maxRange ch < range.toNat
  · rw [if_pos hmax, if_pos hmax]
    exact refuse_holding hin tag payload .badArg
  rw [if_neg hmax, if_neg hmax]
  by_cases hmode : p.channels[ch].mode ≠ .manual
  · rw [if_pos hmode, if_pos hmode]
    exact refuse_holding hin tag payload .badState
  rw [if_neg hmode, if_neg hmode]
  by_cases hlocked : 0 < p.channels[ch].lockCount
  · rw [if_pos hlocked, if_pos hlocked]
    exact refuse_holding hin tag payload .locked
  rw [if_neg hlocked, if_neg hlocked]
  by_cases hsame : p.channels[ch].range = range.toNat
  · rw [if_pos hsame, if_pos hsame]
    exact taken_holding hin tag payload
  · rw [if_neg hsame, if_neg hsame, setRange_holding, setRange_manual (not_not.1 hmode)]
    exact taken_holding (q := detectorUnknown ch (modifyChannel ch _ p)) hin tag payload

/-- Settles O18: RANGE_SET by its checks, and the log by its newest entry and its room. -/
theorem rangeSetMovesAndLogsAManualRange : Obligations.RangeSetMovesAndLogsAManualRange := by
  refine ⟨fun s p tag channel range hp haccepts => ?_, fun c e hempty => appendEntry_empty e hempty,
    fun c e last older hlog => ⟨appendEntry_sameTick hlog, appendEntry_room hlog,
      fun oldest rest htick holdest hfull => appendEntry_full hlog htick holdest hfull.ge⟩⟩
  refine onEvent_command hp haccepts (.rangeSet channel range) ?_
  by_cases hchannel : channel.toNat < 8
  · rw [dif_pos hchannel]
    exact runRangeSet_reply haccepts.2.1 (channelArg_of_lt hchannel) tag _ range
  · have hrefused : ∀ q, runRangeSet channel range q = refuse .badArg q := fun q => by
      rw [runRangeSet, channelArg_of_ge hchannel]
    rw [dif_neg hchannel, runCommand, hrefused]
    exact refuse_holding haccepts.2.1 tag _ .badArg

/-! ### RANGE_MODE -/

/-- A mode byte read (R174). -/
theorem rangeModeArg_eq (b : Byte) : rangeModeArg b =
    if 2 < b.toNat then none else some (if b = 0 then .manual else if b = 1 then .track else .once) := by
  obtain rfl | rfl | rfl | ⟨k, h⟩ := byte_cases b
  · rfl
  · rfl
  · rfl
  · rw [if_pos (by omega), rangeModeArg, h]
    rfl

/-- A channel in a mode, at the beginning of a span and of the pass that ONCE begins (R148). -/
def modeSet (mode : RangeMode) (c : Channel) : Channel :=
  newSpan { c with mode := mode, counted := if mode = .once then some 0 else none }

/-- The mode set, after the report of a pass that it cancels (R146, R148). -/
theorem setRangeMode_eq (ch : Fin 8) (mode : RangeMode) (p : Part) : setRangeMode ch mode p =
    if p.channels[ch].mode = .once then
      postReport (.rangeSettled ch p.channels[ch].range .cancelled) (modifyChannel ch (modeSet mode) p)
    else modifyChannel ch (modeSet mode) p := by
  unfold setRangeMode cancelPass endPass
  by_cases honce : p.channels[ch].mode = .once
  · rw [if_pos honce, if_pos honce]
    dsimp only
    rw [modifyChannel_postReport, modifyChannel_modifyChannel, modifyChannel_get_self]
    rfl
  · rw [if_neg honce, if_neg honce]
    rfl

theorem setRangeMode_holding (tag : Byte) (payload : List Byte) (ch : Fin 8) (mode : RangeMode) (p : Part) :
    setRangeMode ch mode (p.holding tag payload) = (setRangeMode ch mode p).holding tag payload := by
  unfold setRangeMode
  rw [cancelPass_apart (apartFromRange_holding tag payload)]
  rfl

theorem setRangeMode_intake (ch : Fin 8) (mode : RangeMode) (p : Part) : (setRangeMode ch mode p).lnk.intake = p.lnk.intake := by
  rw [setRangeMode_eq]
  split
  · rw [postReport_lnk_intake, modifyChannel_lnk]
  · rw [modifyChannel_lnk]

/-- RANGE_MODE by its checks in order, for a channel (R148). -/
theorem runRangeMode_reply {p : Part} (hin : p.lnk.intake = []) {channel : Byte} {ch : Fin 8} (hch : channelArg channel = some ch)
    (tag : Byte) (payload : List Byte) (mode : Byte) :
    applyReply (runRangeMode channel mode (p.holding tag payload)) =
      if 2 < mode.toNat then Part.answered tag (payloadCode payload) .badArg [] p
      else if 6 ≤ ch.val ∧ mode ≠ 0 then Part.answered tag (payloadCode payload) .unsupported [] p
      else Part.answered tag (payloadCode payload) .ok []
        (setRangeMode ch (if mode = 0 then .manual else if mode = 1 then .track else .once) p) := by
  have hmanual : (if mode = 0 then RangeMode.manual else if mode = 1 then .track else .once) ≠ .manual ↔ mode ≠ 0 := by
    by_cases hzero : mode = 0
    · rw [if_pos hzero]
      exact iff_of_false (not_not.2 rfl) (not_not.2 hzero)
    · rw [if_neg hzero]
      exact iff_of_true (by split <;> decide) hzero
  unfold runRangeMode
  rw [rangeModeArg_eq, hch]
  by_cases hmode : 2 < mode.toNat
  · rw [if_pos hmode, if_pos hmode]
    exact refuse_holding hin tag payload .badArg
  rw [if_neg hmode, if_neg hmode]
  dsimp only
  by_cases hauxiliary : 6 ≤ ch.val ∧ mode ≠ 0
  · rw [if_pos (hauxiliary.imp_right hmanual.2), if_pos hauxiliary]
    exact refuse_holding hin tag payload .unsupported
  · rw [if_neg fun h => hauxiliary (h.imp_right hmanual.1), if_neg hauxiliary, setRangeMode_holding]
    exact taken_holding ((setRangeMode_intake _ _ p).trans hin) tag payload

/-- Settles O19: RANGE_MODE by its checks, with the pass that it cancels. -/
theorem rangeModeStartsANewSpan : Obligations.RangeModeStartsANewSpan := by
  intro s p tag channel mode hp haccepts
  refine onEvent_command hp haccepts (.rangeMode channel mode) ?_
  by_cases hchannel : channel.toNat < 8
  · rw [dif_pos hchannel]
    refine (runRangeMode_reply haccepts.2.1 (channelArg_of_lt hchannel) tag _ mode).trans (if_congr Iff.rfl rfl (if_congr Iff.rfl rfl ?_))
    rw [setRangeMode_eq]
    exact apply_ite (Part.answered tag 0x19 .ok []) _ _ _
  · have hrefused : ∀ q, runRangeMode channel mode q = refuse .badArg q := fun q => by
      rw [runRangeMode, channelArg_of_ge hchannel]
    rw [dif_neg hchannel, runCommand, hrefused]
    exact refuse_holding haccepts.2.1 tag _ .badArg

end Sys2Proof.Machine
end

section
/-!
SUPPORT. The bytes of the messages (sections 10.1, 10.2, 10.4 and 10.5): little-endian fields, the CRC as a fold of its eight shifts, the body of each
report, the length of each command's payload, and the two statements about formats.
-/

namespace Sys2Proof.Machine

/-! ### Little-endian fields (R172) -/

theorem length_leBytes (n v : Nat) : (leBytes n v).length = n := by
  induction n generalizing v with
  | zero => rfl
  | succ n ih => rw [leBytes, List.length_cons, ih]

/-- Byte `i` of a field is the digit of 256^i. -/
theorem getElem?_leBytes {n i : Nat} (h : i < n) (v : Nat) : (leBytes n v)[i]? = some (BitVec.ofNat 8 (v / 256 ^ i)) := by
  induction n generalizing i v with
  | zero => exact absurd h i.not_lt_zero
  | succ n ih =>
    cases i with
    | zero => rw [leBytes, List.getElem?_cons_zero, Nat.pow_zero, Nat.div_one]
    | succ i => rw [leBytes, List.getElem?_cons_succ, ih (Nat.lt_of_succ_lt_succ h), Nat.div_div_eq_div_mul, ← Nat.pow_succ']

/-- The two bytes of a word are those of its number. -/
theorem wordBytes_eq (w : BitVec 16) : wordBytes w = [BitVec.ofNat 8 w.toNat, BitVec.ofNat 8 (w.toNat / 256)] := by
  have hlow : w.extractLsb' 0 8 = BitVec.ofNat 8 w.toNat := rfl
  have hhigh : w.extractLsb' 8 8 = BitVec.ofNat 8 (w.toNat / 256) := by
    rw [BitVec.extractLsb', Nat.shiftRight_eq_div_pow]
  rw [wordBytes, hlow, hhigh]

/-- A tick that fits its field has the field's bytes (R126). -/
theorem tickBytes_of_le {tick : Nat} (h : tick ≤ Config.lastTick) : tickBytes tick = leBytes 6 tick :=
  if_pos h

/-! ### The CRC (R172) -/

/-- The bit shifted out is bit 15. -/
theorem crcShift_eq (v : BitVec 16) : crcShift v = if v.getLsbD 15 = true then (v <<< 1) ^^^ 0x8005 else v <<< 1 := by
  rw [crcShift, BitVec.msb_eq_getLsbD_last]

/-- One byte goes into the upper half of the running value, which then takes eight shifts. -/
theorem crcByte_eq (v : BitVec 16) (b : Byte) :
    crcByte v b = (List.range 8).foldl (fun x _ => crcShift x) (v ^^^ (b.setWidth 16 <<< 8)) := by
  have hupper : b ++ (0 : Byte) = b.setWidth 16 <<< 8 := by
    rw [BitVec.append_def, BitVec.shiftLeftZeroExtend_eq]
    exact BitVec.or_zero
  rw [crcByte, hupper]
  rfl

theorem crc16_append_singleton (bytes : List Byte) (b : Byte) : crc16 (bytes ++ [b]) = crcByte (crc16 bytes) b := by
  rw [crc16, List.foldl_append]
  rfl

/-- The CRC of one byte more, with its eight shifts written out (section 10.1). -/
theorem crc16_append_eq (bytes : List Byte) (b : Byte) : crc16 (bytes ++ [b]) =
    (List.range 8).foldl (fun (v : BitVec 16) _ => if v.getLsbD 15 = true then (v <<< 1) ^^^ 0x8005 else v <<< 1)
      (crc16 bytes ^^^ (b.setWidth 16 <<< 8)) := by
  rw [crc16_append_singleton, crcByte_eq]
  simp only [crcShift_eq]

/-! ### Report bodies (R177) -/

/-- The flags byte in the body of RECORD_SEALED is the number of the flags. -/
theorem reportBody_recordSealed (id : Nat) (plan : Fin 8) (lane : Fin 2) (flags : RecordFlags) (words : Nat) :
    reportBody (.recordSealed id plan lane flags words) = leBytes 2 id ++ [byteOf plan.val, byteOf lane.val,
      byteOf (flags.shortPre.toNat + 2 * flags.truncated.toNat + 4 * flags.clipped.toNat + 8 * flags.rangeUnknown.toNat +
        16 * flags.replayed.toNat)] ++ leBytes 4 words := by
  rw [reportBody, flagsByte_eq]
  rfl

/-- Settles O47: the fields and the CRC by their equations above; each report by the values of its enumerated fields. -/
theorem messagesFollowTheirTables : Obligations.MessagesFollowTheirTables := by
  refine ⟨⟨fun _ _ _ => rfl, rfl, crc16_append_eq, wordBytes_eq, fun n v => ⟨length_leBytes n v, fun _ h => getElem?_leBytes h v⟩,
    fun _ => tickBytes_of_le⟩, ⟨fun _ => rfl, rfl⟩, fun lost => ⟨fun cause => ?resetDone, fun cause tag => ?linkError,
    fun _ _ _ => ⟨rfl, rfl, rfl, rfl⟩, fun i state halt removed => ?planState, fun id i l flags words => ?recordSealed,
    fun _ _ _ => rfl, fun l seq packet retries => ?laneHalted, fun _ _ _ _ => rfl, fun c range outcome => ?rangeSettled, fun _ => rfl⟩⟩
  case resetDone => cases cause <;> rfl
  case linkError =>
    cases tag with
    | none => cases cause <;> rfl
    | some t => cases cause <;> rfl
  case planState =>
    rcases halt with _ | _ | _
    case none => cases state <;> rfl
    case some.hostAbort => cases state <;> rfl
    case some.samplingStopped => cases state <;> rfl
  case recordSealed => exact congrArg (fun body => (0x06 : Byte) :: byteOf lost :: body) (reportBody_recordSealed id i l flags words)
  case laneHalted =>
    cases packet with
    | none => exact ⟨rfl, rfl⟩
    | some packet => exact ⟨rfl, rfl⟩
  case rangeSettled => cases outcome <;> rfl

/-! ### The length of a command's payload (R173) -/

/-- The command table has the length of every command's payload. -/
theorem commandLength_commandCode (c : Command) : commandLength (commandCode c) = some (encodeCommand c).length := by
  cases c <;> rfl

/-- Settles O53: the payload is read back by cases on the command, and its length is the table's. -/
theorem commandPayloadsDecodeToTheirCommands : Obligations.CommandPayloadsDecodeToTheirCommands :=
  fun c => ⟨decodePayload_encodeCommand c, commandLength_commandCode c⟩

end Sys2Proof.Machine
end

section
/-!
SUPPORT. The step at the front of the queue, the device reset of POWER_ON, RESET_PIN and RESET FULL (R171, R169), and RESET FLUSH (R170).
-/

namespace Sys2Proof.Machine

/-! ### A step completes -/

/-- Every step of the part completes, with the same steps waiting. -/
theorem exec_next (i : Instr) (s : State) : ∃ p : Part, exec i s = .next (s.withPart p) := by
  cases i <;> exact ⟨_, rfl⟩

/-- Settles O1: the front step is taken with the rest of the queue, and every step completes. -/
theorem stepTakesTheFrontOfTheQueue : Obligations.StepTakesTheFrontOfTheQueue :=
  fun c s rest => ⟨rfl, exec_next c { s with pending := rest }⟩

/-! ### The device reset (R171) -/

/-- The free list of an empty pool, with its number written out (R1). -/
theorem allBlocks_eq : allBlocks = List.range 1024 := by
  rw [allBlocks, Config.blockCount]

/-- The device reset written out: every block cleared, and RESET_DONE the one report that waits (R171, R164). -/
theorem deviceReset_eq (cause : ResetCause) (pins : ResetPins) (p : Part) :
    deviceReset cause pins p = { Part.cleared pins p.history p.blocks with
      lnk := { Link.reset pins with reports := [{ lost := 0, report := .resetDone cause }] } } := by
  have hroom : (Part.cleared pins p.history p.blocks).lnk.reports.length < Config.reportPlaces := Nat.zero_lt_succ 15
  rw [deviceReset, postReport, if_pos hroom]
  rfl

/-- What a device reset leaves in every block: the values of the reset state, the memories kept, and the lines and the transport as the pins stand
(R171, R20, R58, R152). -/
theorem deviceReset_values (cause : ResetCause) (pins : ResetPins) (p : Part) :
    let t := deviceReset cause pins p
    t.smp = State.reset.part.smp ∧ t.fill = State.reset.part.fill ∧ t.channels = State.reset.part.channels ∧
      t.detectors = State.reset.part.detectors ∧ t.trg = State.reset.part.trg ∧ t.plans = State.reset.part.plans ∧
      t.jobs = [] ∧ t.slots = State.reset.part.slots ∧ t.freeList = List.range 1024 ∧ t.records = [] ∧ t.nextId = 1 ∧
      t.lanes = State.reset.part.lanes ∧ t.history = p.history ∧ t.blocks = p.blocks ∧
      (∀ l : Fin 4, t.lines[l] =
        { enabled := false, edge := .rising, level := pins.ext[l], reference := pins.ext[l], latch := false }) ∧
      t.lnk = { State.reset.part.lnk with
        transport := if pins.spi then .spi else
          .uart (match pins.baud1, pins.baud0 with
            | false, false => 0
            | false, true => 1
            | true, false => 2
            | true, true => 3)
        reports := [{ lost := 0, report := .resetDone cause }] } := by
  intro t
  have ht : t = _ := deviceReset_eq cause pins p
  rw [ht]
  refine ⟨rfl, rfl, rfl, rfl, rfl, rfl, rfl, rfl, by simp only [Part.cleared, allBlocks_eq], rfl, rfl, rfl, rfl, rfl, fun l => ?_, rfl⟩
  fin_cases l <;> rfl

/-- Settles O3: both steps are the device reset, with their cause. -/
theorem powerAndPinResetTheDevice : Obligations.PowerAndPinResetTheDevice := by
  intro s pins step cause hstep
  refine ⟨deviceReset cause pins s.part, ?_, deviceReset_values cause pins s.part⟩
  rcases hstep with ⟨rfl, rfl⟩ | ⟨rfl, rfl⟩ <;> rfl

/-! ### The completion of a frame (R166) -/

/-- The last byte of the frame in flight has left the part: under UART the world says so, under SPI the host has clocked it (R153, R166). -/
theorem allSent_iff (t : Transport) (f : InFlight) : allSent t f = true ↔ t ≠ .spi ∨ f.bytes.length ≤ f.exchanged := by
  cases t <;> simp [allSent]

/-- FRAME_COMPLETE of a frame whose bytes have all left: the link is free, and the cargo has its effect (R166). -/
theorem completeFrame_sent {p : Part} {f : InFlight} (hf : p.lnk.inFlight = some f)
    (hsent : p.lnk.transport ≠ .spi ∨ f.bytes.length ≤ f.exchanged) (pins : ResetPins) :
    completeFrame pins p = cargoArrived pins f.cargo { p with lnk := { p.lnk with inFlight := none } } := by
  unfold completeFrame
  rw [hf]
  exact if_pos ((allSent_iff _ _).2 hsent)

theorem exec_frameComplete {s : State} {p : Part} (hp : arbitrated s.part = p) (pins : ResetPins) :
    exec (.frameComplete pins) s = .next (s.withPart (completeFrame pins p)) :=
  (onEvent_eq _ s).trans (by rw [hp])

/-! ### RESET FULL (R169) -/

/-- Settles O43: the answer of RESET at its execution, and the device reset at the completion of the frame that carries it. -/
theorem resetFullTakesEffectAtItsFramesEnd : Obligations.ResetFullTakesEffectAtItsFramesEnd := by
  intro s p tag pins hp
  refine ⟨fun haccepts => onEvent_command hp haccepts (.reset 0) rfl, fun f hf hcargo hsent =>
    ⟨deviceReset .command pins p, ?_, deviceReset_values .command pins p⟩⟩
  rw [exec_frameComplete hp, completeFrame_sent hf hsent, hcargo, cargoArrived, deviceReset_eq, deviceReset_eq]

/-! ### RESET FLUSH (R170) -/

theorem modifyPlan_all (f : Plan → Plan) (p : Part) :
    allPlans.foldl (fun q i => modifyPlan i f q) p = { p with plans := p.plans.map f } :=
  (List.foldl_hom (fun v : Vector Plan 8 => { p with plans := v }) fun _ _ => rfl).trans
    (congrArg (fun v => { p with plans := v }) (foldl_set_eq_map f p.plans))

theorem modifyLane_both (f : Lane → Lane) (p : Part) : modifyLane 1 f (modifyLane 0 f p) = { p with lanes := p.lanes.map f } :=
  congrArg (fun v => { p with lanes := v }) (foldl_set_eq_map f p.lanes)

/-- RESET FLUSH block by block (R170, R21, R40, R80, R102, R151). -/
theorem flush_eq (p : Part) : flush p = { p with
    jobs := [], slots := Vector.replicate 4 none, records := [], freeList := allBlocks
    plans := p.plans.map flushedPlan, lanes := p.lanes.map flushedLane
    channels := p.channels.map (fun c => { c with lockCount := 0 }) } := by
  unfold flush
  simp only [modifyPlan_all, modifyChannel_all, modifyLane_both]

/-- A plan's part of RESET FLUSH, by its state (R40). -/
theorem flushedPlan_eq (pl : Plan) : flushedPlan pl =
    if pl.state = .running ∨ pl.state = .draining then { pl with state := .ready, openRecord := none } else pl := by
  simp only [flushedPlan, stopsPlan, Bool.or_eq_true, decide_eq_true_eq]

/-- A lane's part of RESET FLUSH, its buffers by whether their packet is in flight (R102, R91). -/
theorem flushedLane_eq (ln : Lane) : flushedLane ln =
    (let flight : Option (Fin 2) := if ln.state = .sending then
        match ln.awaiting with
        | some a => some a.buffer
        | none => ln.releasing
      else none
    { ln with
      state := if ln.state = .sending then .sending else .idle
      flushed := decide (ln.state = .sending)
      releasing := flight
      buffers := Vector.ofFn (fun b : Fin 2 => if flight = some b then ln.buffers[b] else .empty)
      halt := none, queue := [], current := none, seq := 0, resync := true, awaiting := none, haltNoted := false
      retries := 0, ackTimer := none, backoffTimer := none }) := by
  simp only [flushedLane, flightBuffer, Lane.inFlight, decide_eq_true_eq]
  rfl

/-- Settles O44: RESET with mode FLUSH is taken in time, and its effect is the flush block by block. -/
theorem resetFlushClearsTheCaptureSide : Obligations.ResetFlushClearsTheCaptureSide := by
  intro s p tag hp haccepts
  have hflush : flush (p.holding tag (encodeCommand (.reset 1))) = (flush p).holding tag (encodeCommand (.reset 1)) := by
    rw [flush_eq, flush_eq]
    generalize allBlocks = free
    rfl
  have hrun : runCommand (.reset 1) (p.holding tag (encodeCommand (.reset 1))) =
      takenInTime (flush (p.holding tag (encodeCommand (.reset 1)))) := rfl
  have hexec := onMeeting_hostCommand (s := s) (lanes := fun _ => true) (hp.symm ▸ haccepts) (.reset 1) (decodePayload_encodeCommand _)
  rw [hp, hrun, hflush, begin_holding] at hexec
  refine ⟨flush p, hexec, ?_⟩
  rw [flush_eq]
  generalize hfree : allBlocks = free
  refine ⟨rfl, fun w => ?_, rfl, hfree.symm.trans allBlocks_eq, fun i => ?_, fun c => ?_, fun l => ?_, rfl⟩
  · exact Vector.getElem_replicate w.isLt
  · exact (Vector.getElem_map _ i.isLt).trans (flushedPlan_eq _)
  · exact Vector.getElem_map _ c.isLt
  · exact (Vector.getElem_map _ l.isLt).trans (flushedLane_eq _)

end Sys2Proof.Machine
end

section
/-!
SUPPORT. Frames discarded (R156, R157, R153), and the completion of an outbound frame (R166, R91, R110).
-/

namespace Sys2Proof.Machine

/-! ### Discards -/

/-- A discarded frame: the parser in HUNT, the cause counted, and LINK_ERROR posted (R156, R168). -/
theorem discardFrame_eq (cause : LinkCause) (tag : Option Byte) (p : Part) : discardFrame cause tag p =
    postReport (.linkError cause tag) { p with lnk := { p.lnk with
      parser := Parser.hunting, errors := countError cause p.lnk.errors } } := rfl

/-- GAP_EXPIRY by the transport and the parser's state (R157). -/
theorem gapExpires_eq (p : Part) : gapExpires p =
    if p.lnk.transport ≠ .spi ∧ p.lnk.parser.state ≠ .hunt then discardFrame .gap (p.lnk.parser.kept[3]?) p else p := by
  cases htransport : p.lnk.transport with
  | uart rate => simp [gapExpires, parserTag, htransport]
  | spi => simp [gapExpires, htransport]

/-- A rise of CS# by the transport and the parser's state (R153). -/
theorem csRises_eq (p : Part) : csRises p =
    if p.lnk.transport = .spi ∧ p.lnk.parser.state ≠ .hunt then discardFrame .cut (p.lnk.parser.kept[3]?) p else p := by
  cases htransport : p.lnk.transport with
  | uart rate => simp [csRises, htransport]
  | spi => simp [csRises, parserTag, htransport]

/-- Settles O51: each discard by its cause, and the two that come from the line by the transport and the parser's state. -/
theorem discardsCountAndReport : Obligations.DiscardsCountAndReport := by
  intro s p hp e dropped
  have hgap : exec .gapExpiry s = .next (s.withPart (gapExpires p)) := (onEvent_eq _ s).trans (by rw [hp])
  have hcut : exec .csRise s = .next (s.withPart (csRises p)) := (onEvent_eq _ s).trans (by rw [hp])
  have hdiscard : ∀ fault tag, exec (.frameDiscard fault tag) s = .next (s.withPart (discardFrame (faultCause fault) tag p)) :=
    fun _ _ => (onEvent_eq _ s).trans (by rw [hp])
  rw [hgap, hcut, gapExpires_eq, csRises_eq]
  refine ⟨fun tag => ⟨hdiscard _ _, hdiscard _ _, hdiscard _ _⟩, fun huart hframe => ⟨?_, ?_⟩, fun hspi hframe => ⟨?_, ?_⟩,
    fun hhunt => ⟨?_, ?_⟩, fun _ _ => rfl⟩
  · rw [if_pos ⟨huart, hframe⟩]
    rfl
  · rw [if_neg fun h => huart h.1]
  · rw [if_pos ⟨hspi, hframe⟩]
    rfl
  · rw [if_neg fun h => h.1 hspi]
  · rw [if_neg fun h => h.2 hhunt]
  · rw [if_neg fun h => h.2 hhunt]

/-! ### The completion of a frame -/

/-- With no frame in flight none completes (R166). -/
theorem completeFrame_none {p : Part} (h : p.lnk.inFlight = none) (pins : ResetPins) : completeFrame pins p = p := by
  unfold completeFrame
  rw [h]

/-- Under SPI a frame of which the host has yet to clock bytes does not complete (R153, R166). -/
theorem completeFrame_unsent {p : Part} {f : InFlight} (hf : p.lnk.inFlight = some f) (hspi : p.lnk.transport = .spi)
    (hbytes : f.exchanged < f.bytes.length) (pins : ResetPins) : completeFrame pins p = p := by
  unfold completeFrame
  rw [hf]
  refine if_neg fun hsent => ?_
  rcases (allSent_iff _ _).1 hsent with huart | hclocked
  · exact huart hspi
  · omega

/-- The buffers of a lane once that of a packet settled in flight is EMPTY (R91). -/
def releasedBuffers (ln : Lane) : Vector Buffer 2 :=
  match ln.releasing with
  | some b => ln.buffers.set b.val .empty
  | none => ln.buffers

theorem releaseBuffer_eq (ln : Lane) : releaseBuffer ln = { ln with buffers := releasedBuffers ln, releasing := none } := by
  unfold releaseBuffer releasedBuffers
  cases h : ln.releasing with
  | some b => rfl
  | none =>
    obtain ⟨⟩ := ln
    cases h
    rfl

/-- A lane at the completion of its frame, with no halt noted (R91, R102). -/
theorem completedLane_releaseBuffer (ln : Lane) : completedLane (releaseBuffer ln) = { ln with
    buffers := releasedBuffers ln
    releasing := none
    flushed := false
    state := if ln.awaiting ≠ none then .awaiting else if ln.flushed then .idle
      else if ((releasedBuffers ln)[ln.seq]).holds then .ready else .idle
    ackTimer := if ln.awaiting ≠ none then some ln.config.ackTimeout else ln.ackTimer } := by
  rw [releaseBuffer_eq]
  unfold completedLane
  cases h : ln.awaiting with
  | some a => rfl
  | none => rfl

/-- A lane's move into HALTED after a change of the lane that keeps what its report names (R109). -/
theorem haltLane_modifyLane (l : Fin 2) (reason : LaneHalt) (f : Lane → Lane) (p : Part) : haltLane l reason (modifyLane l f p) =
    postReport (.laneHalted l reason (f p.lanes[l]).seq (awaitingName (f p.lanes[l])) (f p.lanes[l]).retries)
      (modifyLane l (fun ln => { f ln with
        state := .halted, halt := some reason, haltNoted := false, ackTimer := none, backoffTimer := none }) p) := by
  simp only [haltLane, modifyLane_get_self, modifyLane_modifyLane]

/-- The completion of a data frame of a lane that is SENDING, by whether a halt is noted (R91, R110). -/
theorem completeLane_sending {l : Fin 2} {p : Part} (h : p.lanes[l].state = .sending) : completeLane l p =
    beginStaging l (if p.lanes[l].haltNoted = true then haltLane l .host (modifyLane l releaseBuffer p)
      else modifyLane l (fun ln => completedLane (releaseBuffer ln)) p) := by
  have hnoted : (releaseBuffer p.lanes[l]).haltNoted = p.lanes[l].haltNoted := by rw [releaseBuffer_eq]
  unfold completeLane
  rw [if_pos h]
  simp only [modifyLane_get_self, hnoted, modifyLane_modifyLane]

theorem completeLane_notSending {l : Fin 2} {p : Part} (h : p.lanes[l].state ≠ .sending) : completeLane l p = p :=
  if_neg h

/-- Settles O42: whether the frame completes, and then what it carried; of a DATA frame, its lane's state and noted halt. -/
theorem frameCompleteFreesTheLink : Obligations.FrameCompleteFreesTheLink := by
  intro s p pins hp
  have hstep : ∀ {t : Part}, completeFrame pins p = t → exec (.frameComplete pins) s = .next (s.withPart t) :=
    fun h => (exec_frameComplete hp pins).trans (by rw [h])
  refine ⟨fun hnone => hstep (completeFrame_none hnone pins), fun f hf => ?_⟩
  intro free
  refine ⟨fun hspi hbytes => hstep (completeFrame_unsent hf hspi hbytes pins), fun hsent => ?_⟩
  have hcomplete : completeFrame pins p = cargoArrived pins f.cargo free := completeFrame_sent hf hsent pins
  refine ⟨fun hcargo => hstep (hcomplete.trans ?_), fun l hcargo => ?_⟩
  · rcases hcargo with h | h <;> rw [h] <;> rfl
  intro ln left
  rw [hcargo] at hcomplete
  refine ⟨fun hstate => hstep (hcomplete.trans (completeLane_notSending (p := free) hstate)), fun hstate hnoted =>
    hstep (hcomplete.trans ((completeLane_sending (p := free) hstate).trans (congrArg (beginStaging l) ?_))), fun hstate hnoted =>
    hstep (hcomplete.trans ((completeLane_sending (p := free) hstate).trans (congrArg (beginStaging l) ?_)))⟩
  · refine (if_pos hnoted).trans ?_
    rw [haltLane_modifyLane]
    simp only [releaseBuffer_eq]
    rfl
  · refine (if_neg ?_).trans ?_
    · exact fun h => Bool.noConfusion (h.symm.trans hnoted)
    · simp only [completedLane_releaseBuffer]
      rfl

end Sys2Proof.Machine
end

section
/-!
SUPPORT. The wire: the transport and the frame in flight, which no inbound byte and no command changes (R152, R165, R166).
-/

namespace Sys2Proof.Machine

/-- The wire of the part: its transport and the frame in flight on it. -/
structure Wire where
  transport : Transport
  inFlight : Option InFlight

/-- What the part holds on its wire. -/
def Part.wire (p : Part) : Wire :=
  { transport := p.lnk.transport, inFlight := p.lnk.inFlight }

theorem wire_eq_iff {p q : Part} : q.wire = p.wire ↔ q.lnk.transport = p.lnk.transport ∧ q.lnk.inFlight = p.lnk.inFlight := by
  simp [Part.wire]

/-! ### The small operations -/

@[simp] theorem wire_modifyPlan (i : Fin 8) (f : Plan → Plan) (p : Part) : (modifyPlan i f p).wire = p.wire := rfl
@[simp] theorem wire_modifyChannel (c : Fin 8) (f : Channel → Channel) (p : Part) : (modifyChannel c f p).wire = p.wire := rfl
@[simp] theorem wire_modifyDetector (c : Fin 8) (f : Detector → Detector) (p : Part) : (modifyDetector c f p).wire = p.wire := rfl
@[simp] theorem wire_modifyLine (l : Fin 4) (f : ExtLine → ExtLine) (p : Part) : (modifyLine l f p).wire = p.wire := rfl
@[simp] theorem wire_modifyLane (l : Fin 2) (f : Lane → Lane) (p : Part) : (modifyLane l f p).wire = p.wire := rfl
@[simp] theorem wire_modifyRecord (id : Nat) (f : Record → Record) (p : Part) : (modifyRecord id f p).wire = p.wire := rfl
@[simp] theorem wire_setSlot (w : Fin 4) (v : Option Window) (p : Part) : (setSlot w v p).wire = p.wire := rfl
@[simp] theorem wire_detectorUnknown (c : Fin 8) (p : Part) : (detectorUnknown c p).wire = p.wire := rfl
@[simp] theorem wire_queueResponse (r : Response) (p : Part) : (queueResponse r p).wire = p.wire := rfl
@[simp] theorem wire_parserToHunt (p : Part) : (parserToHunt p).wire = p.wire := rfl
@[simp] theorem wire_setParser (x : Parser) (p : Part) : (setParser x p).wire = p.wire := rfl
@[simp] theorem wire_withJobs (jobs : List Job) (p : Part) : Part.wire { p with jobs := jobs } = p.wire := rfl

@[simp] theorem wire_postReport (r : Report) (p : Part) : (postReport r p).wire = p.wire := by
  simp [Part.wire]

@[simp] theorem wire_beginStaging (l : Fin 2) (p : Part) : (beginStaging l p).wire = p.wire := by
  rw [beginStaging_frame]
  rfl

@[simp] theorem wire_handOff (l : Fin 2) (id : Nat) (p : Part) : (handOff l id p).wire = p.wire := by
  simp [handOff]

@[simp] theorem wire_reexamine (p : Part) : (reexamine p).wire = p.wire := by
  rw [reexamine_frame]
  rfl

@[simp] theorem wire_freeRecord (id : Nat) (p : Part) : (freeRecord id p).wire = p.wire := by
  rcases freeRecord_spec id p with ⟨-, h⟩ | ⟨r, -, h⟩
  · rw [h]
  · rw [h]
    rfl

@[simp] theorem wire_freeAndReexamine (id : Nat) (p : Part) : (freeAndReexamine id p).wire = p.wire := by
  simp [freeAndReexamine]

/-! ### Windows, plans and the Sampler -/

@[simp] theorem wire_sealRecord (slot : Fin 4) (w : Window) (p : Part) : (sealRecord slot w p).wire = p.wire := by
  have htrim : ∀ q : Part, (trimChain w.recordId q).wire = q.wire := by
    intro q
    rcases trimChain_spec w.recordId q with ⟨-, h⟩ | ⟨r, -, h⟩
    · rw [h]
    · rw [h]
      rfl
  have hlocks : ∀ q : Part, (lowerLocks w.channels q).wire = q.wire := by
    intro q
    rw [lowerLocks_frame]
    rfl
  unfold sealRecord
  dsimp only
  split <;> simp [htrim, hlocks]

@[simp] theorem wire_planDoneIfIdle (i : Fin 8) (p : Part) : (planDoneIfIdle i p).wire = p.wire := by
  unfold planDoneIfIdle
  split <;> simp

@[simp] theorem wire_sealWindow (completes : Bool) (slot : Fin 4) (p : Part) : (sealWindow completes slot p).wire = p.wire := by
  unfold sealWindow
  split
  · dsimp only
    split <;> simp
  · rfl

@[simp] theorem wire_haltPlan (i : Fin 8) (reason : PlanHalt) (removed : Nat) (p : Part) : (haltPlan i reason removed p).wire = p.wire := by
  simp [haltPlan]

@[simp] theorem wire_stopAbort (i : Fin 8) (p : Part) : (stopAbort i p).wire = p.wire := by
  unfold stopAbort
  dsimp only
  split
  · simp
  · split <;> simp

@[simp] theorem wire_stopGraceful (i : Fin 8) (p : Part) : (stopGraceful i p).wire = p.wire := by
  unfold stopGraceful
  split <;> simp

@[simp] theorem wire_spanArrival (ch : Fin 8) (p : Part) : (spanArrival ch p).wire = p.wire := by
  unfold spanArrival
  split
  · exact takeCode_induct (P := fun q => q.wire = p.wire) (fun _ _ _ h => h) (fun _ _ h => h)
      (fun r q h => (wire_postReport r q).trans h) ch _ rfl
  · rfl

@[simp] theorem wire_cancelPass (ch : Fin 8) (p : Part) : (cancelPass ch p).wire = p.wire := by
  unfold cancelPass
  split
  · simp [endPass]
  · rfl

@[simp] theorem wire_stopSampler (p : Part) : (stopSampler p).wire = p.wire := by
  rw [Part.wire, stopSampler_lnk]
  rfl

@[simp] theorem wire_startSampler (p : Part) : (startSampler p).wire = p.wire := by
  rw [startSampler_eq, Part.wire, settleSpans_lnk]
  rfl

@[simp] theorem wire_flush (p : Part) : (flush p).wire = p.wire := by
  rw [flush_eq]
  rfl

/-! ### Lanes -/

@[simp] theorem wire_haltLane (l : Fin 2) (reason : LaneHalt) (p : Part) : (haltLane l reason p).wire = p.wire := by
  simp [haltLane]

@[simp] theorem wire_retryLane (l : Fin 2) (p : Part) : (retryLane l p).wire = p.wire := by
  rw [retryLane_eq]
  split <;> simp

@[simp] theorem wire_abandonRecord (l : Fin 2) (id : Nat) (p : Part) : (abandonRecord l id p).wire = p.wire := by
  unfold abandonRecord
  dsimp only
  split <;> simp

@[simp] theorem wire_completeDelivery (l : Fin 2) (id : Nat) (p : Part) : (completeDelivery l id p).wire = p.wire := by
  unfold completeDelivery
  dsimp only
  split
  · split <;> simp
  · rfl

@[simp] theorem wire_acceptPacket (l : Fin 2) (a : Awaiting) (p : Part) : (acceptPacket l a p).wire = p.wire := by
  unfold acceptPacket
  dsimp only
  rw [wire_beginStaging, wire_modifyLane]
  split <;> simp

@[simp] theorem wire_verdictEffect (l : Fin 2) (a : Awaiting) (v : Verdict) (p : Part) : (verdictEffect l a v p).wire = p.wire := by
  have hstale : (staleAck l p).wire = p.wire := rfl
  unfold verdictEffect
  split
  case h_9 | h_10 => split <;> simp [hstale]
  all_goals simp [hstale]

@[simp] theorem wire_ackArrives (lane seq verdict : Byte) (p : Part) : (ackArrives lane seq verdict p).wire = p.wire := by
  unfold ackArrives takeAck
  dsimp only
  split
  · simp
  · rfl

/-! ### Commands -/

/-- No command changes the wire: a RESET FULL takes effect at the completion of a frame alone (R169). -/
theorem wire_runCommand (c : Command) (p : Part) : (runCommand c p).1.wire = p.wire := by
  cases c with
  | inquire => rfl
  | status => rfl
  | reset mode =>
    simp only [runCommand, runReset]
    split <;> simp
  | samplingSet rate channels =>
    simp only [runCommand, runSamplingSet]
    repeat' split
    all_goals rfl
  | samplingStart =>
    simp only [runCommand, runSamplingStart]
    split <;> simp
  | samplingStop =>
    simp only [runCommand, runSamplingStop]
    split <;> simp
  | rangeSet channel range =>
    simp only [runCommand, runRangeSet]
    repeat' split
    all_goals simp [setRange]
  | rangeMode channel mode =>
    simp only [runCommand, runRangeMode]
    repeat' split
    all_goals simp [setRangeMode]
  | channelGet channel => rw [runCommand, runChannelGet_fst]
  | extlineSet line enabled edge =>
    simp only [runCommand, runExtlineSet]
    split <;> rfl
  | detectorSet channel enabled threshold hysteresis direction =>
    simp only [runCommand, runDetectorSet]
    repeat' split
    all_goals rfl
  | trigger mask =>
    simp only [runCommand, runTrigger]
    repeat' split
    all_goals rfl
  | planDefine plan definition =>
    simp only [runCommand, runPlanDefine]
    repeat' split
    all_goals rfl
  | planClear plan =>
    simp only [runCommand, runPlanClear]
    repeat' split
    all_goals rfl
  | planStart plan =>
    simp only [runCommand, runPlanStart]
    repeat' split
    all_goals rfl
  | planStop plan mode =>
    simp only [runCommand, runPlanStop]
    repeat' split
    all_goals simp
  | planGet plan => rw [runCommand, runPlanGet_fst]
  | recordList => rfl
  | recordDiscard id =>
    simp only [runCommand, runRecordDiscard]
    repeat' split
    all_goals simp [withdrawQueued]
  | recordRelease id =>
    simp only [runCommand, runRecordRelease]
    repeat' split
    all_goals simp
  | recordReplay id =>
    simp only [runCommand, runRecordReplay]
    repeat' split
    all_goals simp
  | laneSet lane k ackTimeout backoff retryLimit =>
    simp only [runCommand, runLaneSet]
    repeat' split
    all_goals rfl
  | laneClearHalt lane =>
    simp only [runCommand, runLaneClearHalt]
    repeat' split
    all_goals simp [clearHalt]
  | laneGet lane => rw [runCommand, runLaneGet_fst]

@[simp] theorem wire_runPayload (payload : List Byte) (p : Part) : (runPayload payload p).1.wire = p.wire := by
  unfold runPayload
  split
  · rfl
  · rfl
  · exact wire_runCommand _ p

@[simp] theorem wire_applyReply (x : Part × Reply) : (applyReply x).wire = x.1.wire := by
  obtain ⟨p, reply⟩ := x
  cases reply with
  | done status results =>
    simp only [applyReply, answerHead]
    split <;> rfl
  | waits => rfl
  | takesTime => rfl
  | resets =>
    simp only [applyReply, answerReset]
    split <;> rfl

@[simp] theorem wire_drain (p : Part) : (drain p).wire = p.wire :=
  drain_induct (P := fun q => q.wire = p.wire) (fun c _ q _ _ h => by rw [wire_applyReply, wire_runPayload, h]) rfl

/-! ### Inbound bytes -/

@[simp] theorem wire_discardFrame (cause : LinkCause) (tag : Option Byte) (p : Part) : (discardFrame cause tag p).wire = p.wire := by
  rw [discardFrame_eq, wire_postReport]
  rfl

@[simp] theorem wire_commandArrives (tag : Byte) (payload : List Byte) (p : Part) : (commandArrives tag payload p).wire = p.wire := by
  have hrefused : ∀ status q, (refuseFrame tag payload status q).wire = q.wire := by
    intro status q
    unfold refuseFrame linkError
    split
    · rfl
    · rw [wire_postReport]
      rfl
  have hadmitted : ∀ q : Part, (admitCommand tag payload q).wire = q.wire := fun q => wire_drain _
  unfold commandArrives takeCommand
  repeat' split
  all_goals simp [hrefused, hadmitted]

/-- No inbound byte changes the wire (R155): what it brings about at the outbound side waits for the arbiter. -/
theorem wire_parseByte (b : Byte) (p : Part) : (parseByte b p).wire = p.wire := by
  have hkind : ∀ kind tag payload, (judgeKind kind tag payload p).wire = p.wire := by
    intro kind tag payload
    unfold judgeKind
    repeat' split
    all_goals simp
  unfold parseByte
  split
  · split <;> rfl
  · unfold takeLengthByte
    repeat' split
    all_goals simp
  · rfl
  · unfold takeCheckByte judgeFrame
    repeat' split
    all_goals simp [hkind]

end Sys2Proof.Machine
end

section
/-!
SUPPORT. The arbiter (R165, R90, R82): which lane it takes, when an event meets the start of a DATA frame (R97, R106, R109, R113), and the start of
each kind of frame written out.
-/

namespace Sys2Proof.Machine

/-! ### The lane that the arbiter takes -/

/-- A lane has a packet for the arbiter: it is READY and its send buffer HOLDS one (R82). -/
def Lane.Due (ln : Lane) : Prop :=
  ln.state = .ready ∧ (ln.buffers[ln.seq]).holds = true

theorem readyPacket_eq_some {ln : Lane} {k : Packet} : readyPacket ln = some k ↔ ln.state = .ready ∧ ln.buffers[ln.seq] = .holding k := by
  unfold readyPacket
  split
  · rename_i hready
    cases ln.buffers[ln.seq] <;> simp [hready]
  · rename_i hready
    simp [hready]

theorem readyPacket_isSome {ln : Lane} : (readyPacket ln).isSome = true ↔ ln.Due := by
  rw [Option.isSome_iff_exists]
  constructor
  · rintro ⟨k, hk⟩
    obtain ⟨hready, hbuffer⟩ := readyPacket_eq_some.1 hk
    exact ⟨hready, by rw [hbuffer]; rfl⟩
  · rintro ⟨hready, hholds⟩
    cases hbuffer : ln.buffers[ln.seq] with
    | holding k => exact ⟨k, readyPacket_eq_some.2 ⟨hready, hbuffer⟩⟩
    | filling k => rw [hbuffer] at hholds; cases hholds
    | empty => rw [hbuffer] at hholds; cases hholds

theorem readyPacket_eq_none {ln : Lane} : readyPacket ln = none ↔ ¬ ln.Due := by
  rw [← readyPacket_isSome, Option.not_isSome_iff_eq_none]

/-- The arbiter takes the lane whose turn it is, and the other only if that one has no packet for it (R165). -/
theorem readyLane_eq_some {p : Part} {l : Fin 2} {k : Packet} : readyLane p = some (l, k) ↔
    readyPacket p.lanes[l] = some k ∧ (l = p.lnk.turn ∨ ¬ p.lanes[p.lnk.turn].Due) := by
  rw [← readyPacket_eq_none]
  unfold readyLane
  by_cases hl : l = p.lnk.turn
  · subst hl
    have hother : 1 - p.lnk.turn ≠ p.lnk.turn := by omega
    cases hturn : readyPacket p.lanes[p.lnk.turn] <;> simp [hother]
  · obtain rfl : l = 1 - p.lnk.turn := by omega
    cases hturn : readyPacket p.lanes[p.lnk.turn] <;> simp [hl, Ne.symm hl]

theorem readyLane_eq_none {p : Part} : readyLane p = none ↔ ∀ l : Fin 2, ¬ p.lanes[l].Due := by
  constructor
  · intro hnone l hdue
    have hturn : ¬ p.lanes[p.lnk.turn].Due := fun h => by
      obtain ⟨k, hk⟩ := Option.isSome_iff_exists.1 (readyPacket_isSome.2 h)
      exact nomatch hnone.symm.trans (readyLane_eq_some.2 ⟨hk, .inl rfl⟩)
    obtain ⟨k, hk⟩ := Option.isSome_iff_exists.1 (readyPacket_isSome.2 hdue)
    exact nomatch hnone.symm.trans (readyLane_eq_some.2 ⟨hk, .inr hturn⟩)
  · intro hidle
    rw [Option.eq_none_iff_forall_ne_some]
    rintro ⟨l, k⟩ h
    exact hidle l (readyPacket_isSome.1 (Option.isSome_of_eq_some (readyLane_eq_some.1 h).1))

/-- The lane whose DATA frame is due: the link is free, nothing else waits, and the arbiter would take it (R165). -/
theorem dueLane_eq_some {p : Part} {l : Fin 2} : dueLane p = some l ↔
    p.lnk.inFlight = none ∧ p.lnk.responses = [] ∧ p.lnk.reports = [] ∧ p.lanes[l].Due ∧ (l = p.lnk.turn ∨ ¬ p.lanes[p.lnk.turn].Due) := by
  have hready : (readyLane p).map (fun x => x.1) = some l ↔ p.lanes[l].Due ∧ (l = p.lnk.turn ∨ ¬ p.lanes[p.lnk.turn].Due) := by
    rw [← readyPacket_isSome, Option.isSome_iff_exists, Option.map_eq_some_iff]
    constructor
    · rintro ⟨⟨l', k⟩, hk, rfl⟩
      obtain ⟨hpacket, hturn⟩ := readyLane_eq_some.1 hk
      exact ⟨⟨k, hpacket⟩, hturn⟩
    · rintro ⟨⟨k, hk⟩, hturn⟩
      exact ⟨(l, k), readyLane_eq_some.2 ⟨hk, hturn⟩, rfl⟩
  rw [← hready]
  unfold dueLane
  cases p.lnk.inFlight <;> cases p.lnk.responses <;> cases p.lnk.reports <;> simp

/-! ### What an event finds -/

/-- Both lanes' announcements in one equation (R82). -/
theorem announced_eq (p : Part) : announced p = { p with lanes := Vector.ofFn (fun l : Fin 2 =>
    let ln := p.lanes[l]
    if ln.state = .idle ∧ ln.awaiting = none ∧ (ln.buffers[ln.seq]).holds = true then { ln with state := .ready } else ln) } := by
  have hlanes : (announced p).lanes = Vector.ofFn (fun l : Fin 2 => announcedLane p.lanes[l]) :=
    Vector.ext fun i hi => by
      rw [Vector.getElem_ofFn]
      exact announced_get ⟨i, hi⟩ p
  rw [announced_frame, hlanes]
  rfl

/-- When an event at some of the lanes meets the start of a DATA frame (R97, R106, R109, R113). -/
theorem startMeets_iff (lanes : Fin 2 → Bool) (p : Part) : startMeets lanes p = true ↔
    p.lnk.inFlight = none ∧ p.lnk.responses = [] ∧ p.lnk.reports = [] ∧
      ∃ l : Fin 2, lanes l = true ∧ (announced p).lanes[l].Due ∧ (l = p.lnk.turn ∨ ¬ (announced p).lanes[p.lnk.turn].Due) := by
  have hlnk : (announced p).lnk = p.lnk := rfl
  rw [startMeets, Option.any_eq_true]
  constructor
  · rintro ⟨l, hdue, hl⟩
    obtain ⟨hfree, hresponses, hreports, hready, hturn⟩ := dueLane_eq_some.1 hdue
    exact ⟨hfree, hresponses, hreports, l, hl, hready, hturn⟩
  · rintro ⟨hfree, hresponses, hreports, l, hl, hready, hturn⟩
    exact ⟨l, dueLane_eq_some.2 ⟨hfree, hresponses, hreports, hready, hturn⟩, hl⟩

/-- An event at no lane meets no start. -/
theorem startMeets_nowhere (p : Part) : startMeets (fun _ => false) p = false := by
  rw [Bool.eq_false_iff]
  intro h
  obtain ⟨-, -, -, l, hl, -⟩ := (startMeets_iff _ p).1 h
  cases hl

/-- An event that may meet a start at no lane is an event that finds the due start made. -/
theorem onMeeting_nowhere (f : Part → Part) : onMeeting (fun _ => false) f = onEvent f :=
  funext fun s => onMeeting_apart (startMeets_nowhere s.part) f

/-- The due start, once made, leaves none due. -/
theorem arbitrated_idem (p : Part) : arbitrated (arbitrated p) = arbitrated p :=
  arbitrated_of_lanes_lnk rfl rfl rfl

end Sys2Proof.Machine
end

section
/-!
SUPPORT. Payloads and frames that may meet the start of a DATA frame: which payloads LNK reads as which command (R173), and the statement about the
arbiter's order (R165).
-/

namespace Sys2Proof.Machine

/-! ### A command read from its payload (R173) -/

/-- The two bytes of a word put together from two bytes. -/
theorem wordBytes_byteWord (low high : Byte) : wordBytes (byteWord low high) = [low, high] := by
  have hlow : (high ++ low).extractLsb' 0 8 = low := BitVec.extractLsb'_append_eq_right
  have hhigh : (high ++ low).extractLsb' 8 8 = high := BitVec.extractLsb'_append_eq_left
  rw [wordBytes, byteWord, hlow, hhigh]

/-- A code read from its number. -/
theorem byte_of_toNat {b : Byte} {n : Nat} (h : b.toNat = n) : b = BitVec.ofNat 8 n := by
  rw [← h, BitVec.ofNat_toNat, BitVec.setWidth_eq]

section Readers

variable {code : Byte} {args : List Byte} {c : Command}

theorem readNone_command {c' : Command} (h : readNone code c' args = .command c) : c = c' ∧ args = [] := by
  unfold readNone at h
  split at h
  · cases h
    exact ⟨rfl, rfl⟩
  · cases h

theorem readOne_command {f : Byte → Command} (h : readOne code f args = .command c) : ∃ a, c = f a ∧ args = [a] := by
  unfold readOne at h
  split at h
  · cases h
    exact ⟨_, rfl, rfl⟩
  · cases h

theorem readTwo_command {f : Byte → Byte → Command} (h : readTwo code f args = .command c) : ∃ a b, c = f a b ∧ args = [a, b] := by
  unfold readTwo at h
  split at h
  · cases h
    exact ⟨_, _, rfl, rfl⟩
  · cases h

theorem readId_command {f : BitVec 16 → Command} (h : readId code f args = .command c) : ∃ id, c = f id ∧ args = wordBytes id := by
  unfold readId at h
  split at h
  · cases h
    exact ⟨_, rfl, (wordBytes_byteWord _ _).symm⟩
  · cases h

end Readers

/-- LNK reads a payload as a command only where it is that command's payload. -/
theorem encodeCommand_of_decodePayload {payload : List Byte} {c : Command} (h : decodePayload payload = .command c) :
    encodeCommand c = payload := by
  cases payload with
  | nil => cases h
  | cons code args =>
    change decodeArgs code args = .command c at h
    unfold decodeArgs at h
    split at h
    case h_1 hcode | h_2 hcode | h_5 hcode | h_6 hcode | h_18 hcode =>
      obtain ⟨rfl, rfl⟩ := readNone_command h
      rw [byte_of_toNat hcode]
      rfl
    case h_3 hcode | h_9 hcode | h_12 hcode | h_14 hcode | h_15 hcode | h_17 hcode | h_23 hcode | h_24 hcode =>
      obtain ⟨a, rfl, rfl⟩ := readOne_command h
      rw [byte_of_toNat hcode]
      rfl
    case h_7 hcode | h_8 hcode | h_16 hcode =>
      obtain ⟨a, b, rfl, rfl⟩ := readTwo_command h
      rw [byte_of_toNat hcode]
      rfl
    case h_19 hcode | h_20 hcode | h_21 hcode =>
      obtain ⟨id, rfl, rfl⟩ := readId_command h
      rw [byte_of_toNat hcode]
      rfl
    case h_4 hcode =>
      unfold readSamplingSet at h
      split at h
      · cases h
        rw [byte_of_toNat hcode, encodeCommand, commandArgs, wordBytes_byteWord]
        rfl
      · cases h
    case h_10 hcode =>
      unfold readThree at h
      split at h
      · cases h
        rw [byte_of_toNat hcode]
        rfl
      · cases h
    case h_11 hcode =>
      unfold readDetectorSet at h
      split at h
      · cases h
        simp only [byte_of_toNat hcode, encodeCommand, commandArgs, wordBytes_byteWord]
        rfl
      · cases h
    case h_13 hcode =>
      unfold readPlanDefine at h
      split at h
      · cases h
        simp only [byte_of_toNat hcode, encodeCommand, commandArgs, planArgBytes, wordBytes_byteWord]
        rfl
      · cases h
    case h_22 hcode =>
      unfold readLaneSet at h
      split at h
      · cases h
        simp only [byte_of_toNat hcode, encodeCommand, commandArgs, wordBytes_byteWord]
        rfl
      · cases h
    case h_25 => cases h

/-! ### Frames that may meet a start -/

theorem payloadMeets_command {payload : List Byte} {c : Command} (h : decodePayload payload = .command c) :
    payloadMeets payload = fun _ => commandMeets c := by
  funext l
  rw [payloadMeets, h]

/-- RESET FLUSH and RECORD_DISCARD alone meet a start (R97, R113). -/
theorem payloadMeets_iff (payload : List Byte) (l : Fin 2) :
    payloadMeets payload l = true ↔ payload = [0x03, 1] ∨ ∃ low high : Byte, payload = [0x41, low, high] := by
  constructor
  · intro h
    cases hread : decodePayload payload with
    | unknown code => rw [payloadMeets, hread] at h; cases h
    | badLength code => rw [payloadMeets, hread] at h; cases h
    | command c =>
      rw [payloadMeets_command hread] at h
      rw [← encodeCommand_of_decodePayload hread]
      cases c with
      | reset mode =>
        rw [eq_of_beq (a := mode) (b := 1) h]
        exact .inl rfl
      | recordDiscard id => exact .inr ⟨_, _, rfl⟩
      | _ => cases h
  · rintro (rfl | ⟨low, high, rfl⟩) <;> rfl

theorem ackMeets_iff (lane : Byte) (l : Fin 2) : ackMeets lane l = true ↔ l.val = lane.toNat % 2 := by
  have hlane : (ackLane lane).val = lane.toNat % 2 :=
    congrArg Fin.val (ackLane_eq (l := ⟨lane.toNat % 2, Nat.mod_lt _ (by decide)⟩) rfl)
  rw [ackMeets, beq_iff_eq, Fin.ext_iff, hlane, eq_comm]

/-- A good frame meets a start as its kind and its payload do. -/
theorem frameMeets_iff (kind : Byte) (payload : List Byte) (l : Fin 2) : frameMeets kind payload l = true ↔
    (kind = 0x10 ∧ payloadMeets payload l = true) ∨
      (kind = 0x11 ∧ ∃ lane seq verdict : Byte, payload = [lane, seq, verdict] ∧ ackMeets lane l = true) := by
  unfold frameMeets
  by_cases hcommand : kind = 0x10
  · subst hcommand
    simp
  · rw [if_neg hcommand]
    by_cases hack : kind = 0x11
    · subst hack
      rw [if_pos rfl]
      split
      · simp
      · rename_i hother
        refine iff_of_false nofun ?_
        rintro (⟨h, -⟩ | ⟨-, lane, seq, verdict, h, -⟩)
        · cases h
        · exact hother lane seq verdict h
    · rw [if_neg hack]
      exact iff_of_false nofun fun h => h.elim (fun h => hcommand h.1) (fun h => hack h.1)

/-- The byte that ends a good frame meets a start as the frame does; no other byte does. -/
theorem byteMeets_iff (b : Byte) (x : Parser) (l : Fin 2) : byteMeets b x l = true ↔
    ∃ (low n0 n1 kind tag : Byte) (payload : List Byte), x.state = .check ∧ x.crcLow = some low ∧
      x.kept = n0 :: n1 :: kind :: tag :: payload ∧ crc16 x.kept = b ++ low ∧ frameMeets kind payload l = true := by
  unfold byteMeets
  constructor
  · intro h
    split at h
    · rename_i low n0 n1 kind tag payload hstate hlow hkept
      rw [Bool.and_eq_true, beq_iff_eq] at h
      exact ⟨low, n0, n1, kind, tag, payload, hstate, hlow, hkept, h.1, h.2⟩
    · cases h
  · rintro ⟨low, n0, n1, kind, tag, payload, hstate, hlow, hkept, hcrc, hmeets⟩
    have hcheck : (crc16 x.kept == byteWord low b) = true := beq_iff_eq.2 hcrc
    rw [hstate, hlow]
    simp only [hkept] at hcheck ⊢
    rw [hcheck, hmeets]
    rfl

/-! ### The start of a frame written out -/

theorem startFrame_response {p : Part} {r : Response} {rest : List Response} (hfree : p.lnk.inFlight = none) (hr : p.lnk.responses = r :: rest) :
    startFrame p = putInFlight (.response r.resetFull) (frameBytes 0x20 r.tag (responsePayload r))
      { p with lnk := { p.lnk with responses := rest } } := by
  unfold startFrame
  rw [hfree, hr]
  rfl

theorem startFrame_report {p : Part} {q : QueuedReport} {rest : List QueuedReport} (hfree : p.lnk.inFlight = none)
    (hr : p.lnk.responses = []) (hq : p.lnk.reports = q :: rest) :
    startFrame p = putInFlight .report (frameBytes 0x21 0 (reportPayload q)) { p with lnk := { p.lnk with reports := rest } } := by
  unfold startFrame
  rw [hfree, hr, hq]
  rfl

/-- With no response and no report waiting, the arbiter looks at the lanes (R165). -/
theorem startFrame_lanes {p : Part} (hfree : p.lnk.inFlight = none) (hr : p.lnk.responses = []) (hq : p.lnk.reports = []) :
    startFrame p = match readyLane p with
      | some (l, k) => startData l k p
      | none => p := by
  unfold startFrame
  rw [hfree, hr, hq]
  rfl

/-- A lane at the start of its DATA frame: a first transmission where nothing awaits, else a resend (R90, R100). -/
theorem transmittedLane_eq (k : Packet) (ln : Lane) : transmittedLane k ln = { ln with
    state := .sending
    awaiting := match ln.awaiting with
      | none => some { recordId := k.recordId, index := k.index, buffer := ln.seq }
      | some w => some w
    counters := { ln.counters with
      transmissions := min (ln.counters.transmissions + 1) 65535
      resends := if ln.awaiting = none then ln.counters.resends else min (ln.counters.resends + 1) 65535 } } := by
  unfold transmittedLane
  cases h : ln.awaiting <;> rfl

/-- The marks of a DATA frame as a number: the sequence bit, RESYNC and the final packet (R178). -/
theorem marksByte_eq : ∀ (seq : Fin 2) (resync final : Bool),
    marksByte seq resync final = BitVec.ofNat 8 (seq.val + (if resync then 2 else 0) + (if final then 4 else 0)) := by
  decide

/-- The DATA header and the packet behind it (R178). -/
theorem dataPayload_eq (l : Fin 2) (ln : Lane) (k : Packet) : dataPayload l ln k =
    [BitVec.ofNat 8 l.val,
      BitVec.ofNat 8 (ln.seq.val + (if ln.resync then 2 else 0) + (if k.index + 1 = k.total then 4 else 0))] ++
      leBytes 2 k.recordId ++ leBytes 2 k.index ++ leBytes 2 k.total ++ leBytes 2 k.valid ++ k.bytes := by
  simp only [dataPayload, marksByte_eq, beq_iff_eq]
  rfl

/-- The start of a DATA frame: the lane's part, the turn passed, and the frame in flight (R90, R165). -/
theorem startData_eq (l : Fin 2) (k : Packet) (p : Part) : startData l k p =
    { beginStaging l (modifyLane l (transmittedLane k) p) with
      lnk := { p.lnk with
        turn := 1 - l
        inFlight := some { cargo := .data l, bytes := frameBytes 0x22 0 (dataPayload l p.lanes[l] k), exchanged := 0 } } } := by
  have hlnk : (beginStaging l (modifyLane l (transmittedLane k) p)).lnk = p.lnk := by
    rw [beginStaging_frame]
    rfl
  rw [startData, startLane, hlnk]
  rfl

/-- The end of an execution that takes time: its OK is queued, and the commands behind it execute (R161). -/
theorem finishExecution_cons {p : Part} {c : IntakeCommand} {behind : List IntakeCommand} (h : p.lnk.intake = c :: behind) :
    finishExecution p = drain { p with lnk := { p.lnk with
      finishing := false
      intake := behind
      responses := p.lnk.responses ++ [reservedResponse c.tag (payloadCode c.payload) .ok []] } } := by
  unfold finishExecution answerHead
  simp only [h]
  rfl

/-- A FRAME_START that has made a start, or that finds no execution to end, does nothing more (R165). -/
theorem frameStarts_started {p : Part} (h : p.lnk.inFlight ≠ none ∨ p.lnk.finishing = false) : frameStarts p = p := by
  refine if_neg fun ⟨hfinishing, hfree⟩ => ?_
  rcases h with h | h
  · exact h hfree
  · rw [h] at hfinishing
    cases hfinishing

/-- A FRAME_START that finds none due ends the execution that takes time, and makes the start that is then due (R161, R165). -/
theorem frameStarts_finishing {p : Part} (hfinishing : p.lnk.finishing = true) (hfree : p.lnk.inFlight = none) :
    frameStarts p = arbitrated (finishExecution p) :=
  if_pos ⟨hfinishing, hfree⟩

/-! ### Steps and the start that they meet -/

/-- A step that finds the due start made, as one that may meet a start at no lane. -/
theorem onMeeting_of_onEvent {c : Instr} {f : Part → Part} (h : ∀ s, exec c s = onEvent f s) (hnowhere : ∀ p, meetingLanes p c = fun _ => false) :
    ∃ f, ∀ s, exec c s = onMeeting (meetingLanes s.part c) f s :=
  ⟨f, fun s => by rw [h, hnowhere, onMeeting_nowhere]⟩

/-- Every step but the two resets is an event that may meet a start at the lanes of `meetingLanes`. -/
theorem exec_cases (c : Instr) :
    (∃ cause pins, (∀ s, exec c s = onPart (deviceReset cause pins) s) ∧ ∀ p, meetingLanes p c = fun _ => false) ∨
      ∃ f, ∀ s, exec c s = onMeeting (meetingLanes s.part c) f s := by
  cases c with
  | powerOn pins => exact .inl ⟨_, _, fun _ => rfl, fun _ => rfl⟩
  | resetPin pins => exact .inl ⟨_, _, fun _ => rfl, fun _ => rfl⟩
  | ack lane seq verdict => exact .inr ⟨_, fun _ => rfl⟩
  | recordDiscard tag id => exact .inr ⟨_, fun _ => rfl⟩
  | resetFlush tag => exact .inr ⟨_, fun _ => rfl⟩
  | commandFrame tag payload => exact .inr ⟨_, fun _ => rfl⟩
  | unknownCommand tag payload => exact .inr ⟨_, fun _ => rfl⟩
  | inboundByte arrival => exact .inr ⟨_, fun _ => rfl⟩
  | extEdge line level =>
    exact .inr (onMeeting_of_onEvent (f := fun p => modifyLine line (edgeOnLine p.smp.running level) p) (fun _ => rfl) (fun _ => rfl))
  | _ => exact .inr (onMeeting_of_onEvent (fun _ => rfl) (fun _ => rfl))

theorem meetingLanes_announced (p : Part) (c : Instr) : meetingLanes (announced p) c = meetingLanes p c := by
  cases c <;> rfl

/-- An event that meets a start comes to the announced part as it does to the part itself. -/
theorem onMeeting_announced {lanes : Fin 2 → Bool} {s : State} (h : startMeets lanes s.part = true) (f : Part → Part) :
    onMeeting lanes f (s.withPart (announced s.part)) = onMeeting lanes f s := by
  simp only [onMeeting_eq, startAfter, partFound, startMeets_announced, announced_idem, h, if_true]

/-- A device reset keeps nothing that a frame start changes (R171). -/
theorem deviceReset_arbitrated (cause : ResetCause) (pins : ResetPins) (p : Part) :
    deviceReset cause pins (arbitrated p) = deviceReset cause pins p := by
  have hhistory : (arbitrated p).history = p.history := (congrArg Part.history (arbitrated_frame p) :)
  have hblocks : (arbitrated p).blocks = p.blocks := (congrArg Part.blocks (arbitrated_frame p) :)
  rw [deviceReset_eq, deviceReset_eq, hhistory, hblocks]

/-- A step that meets no start finds the due start made (R165). -/
theorem exec_apart {c : Instr} {s : State} (h : startMeets (meetingLanes s.part c) s.part = false) :
    exec c s = exec c (s.withPart (arbitrated s.part)) := by
  generalize ht : s.withPart (arbitrated s.part) = t
  have hpart : t.part = arbitrated s.part := by rw [← ht, State.withPart_part]
  have hwith : ∀ p, t.withPart p = s.withPart p := fun p => by subst ht; rfl
  rcases exec_cases c with ⟨cause, pins, hexec, -⟩ | ⟨f, hexec⟩
  · rw [hexec s, hexec t, onPart_eq, onPart_eq, hwith, hpart, deviceReset_arbitrated]
  · have hmeets : startMeets (meetingLanes t.part c) t.part = false := by rw [hpart, startMeets_arbitrated]
    rw [hexec s, hexec t, onMeeting_apart h, onMeeting_apart hmeets, onEvent_eq, onEvent_eq, hwith, hpart, arbitrated_idem]

/-- A step that meets a start is taken on the part with the lanes' announcements alone, and the arbiter starts a frame after it (R97, R106). -/
theorem exec_first {c : Instr} {s : State} (h : startMeets (meetingLanes s.part c) s.part = true) :
    exec c s = exec c (s.withPart (announced s.part)) ∧ ∃ q : Part, exec c s = .next (s.withPart (arbitrated q)) := by
  rcases exec_cases c with ⟨cause, pins, -, hnowhere⟩ | ⟨f, hexec⟩
  · rw [hnowhere, startMeets_nowhere] at h
    cases h
  · have hlanes : meetingLanes (s.withPart (announced s.part)).part c = meetingLanes s.part c := meetingLanes_announced s.part c
    refine ⟨?_, f (announced s.part), (hexec s).trans (onMeeting_first h f)⟩
    rw [hexec s, hexec (s.withPart (announced s.part)), hlanes, onMeeting_announced h]

/-- Settles O41: steps apart from a start and steps that meet one; then FRAME_START by what the arbiter finds; then which events meet a start. -/
theorem frameStartFollowsTheArbiterOrder : Obligations.FrameStartFollowsTheArbiterOrder := by
  refine ⟨fun c s => exec_apart, fun c s => exec_first, fun s => ?_, fun lanes p => ?_, ackMeets_iff, payloadMeets_iff, fun b x l => ?_⟩
  · intro a
    have ha : announced s.part = a := announced_eq s.part
    have hstep : ∀ {t : Part}, frameStarts (startFrame a) = t → exec .frameStart s = .next (s.withPart t) := fun h => by
      rw [← h, ← ha]
      exact onEvent_eq frameStarts s
    have hstarted : ∀ {t : Part}, startFrame a = t → t.lnk.inFlight ≠ none → exec .frameStart s = .next (s.withPart t) :=
      fun h hbusy => hstep (by rw [h, frameStarts_started (.inl hbusy)])
    have hnone : (∀ l : Fin 2, a.lanes[l].state ≠ .ready) → s.part.lnk.inFlight = none → s.part.lnk.responses = [] →
        s.part.lnk.reports = [] → startFrame a = a := fun hidle hfree hr hq => by
      have hlanes : readyLane a = none := readyLane_eq_none.2 fun l hdue => hidle l hdue.1
      rw [startFrame_lanes (p := a) hfree hr hq, hlanes]
    have harbitrated : arbitrated s.part = startFrame a := by rw [← ha]; rfl
    have hkeeps : (startFrame a).lnk.finishing = s.part.lnk.finishing := by
      rw [← harbitrated, arbitrated_frame]
    refine ⟨fun h => hstep ?_, fun hbusy => hstep ?_, fun hfree => ⟨fun r rest hr => ?_, fun q rest hr hq => ?_, fun hr hq => ⟨?_, ?_, ?_⟩⟩⟩
    · rw [← harbitrated]
      exact frameStarts_started (h.imp_right fun h => by rw [harbitrated, hkeeps, h])
    · have hidle : startFrame a = a := startFrame_busy (Option.isSome_iff_ne_none.2 hbusy)
      rw [hidle]
      exact frameStarts_started (.inl hbusy)
    · exact hstarted (startFrame_response (p := a) hfree hr) nofun
    · exact hstarted (startFrame_report (p := a) hfree hr hq) nofun
    · intro l k ln hready hbuffer hturn q
      have hlane : readyLane a = some (l, k) :=
        readyLane_eq_some.2 ⟨readyPacket_eq_some.2 ⟨hready, hbuffer⟩, hturn.imp_right fun h hdue => h hdue.1⟩
      have hstart : startFrame a = startData l k a := by rw [startFrame_lanes (p := a) hfree hr hq, hlane]
      refine hstarted ?_ nofun
      rewrite [hstart, startData_eq, dataPayload_eq, modifyLane, transmittedLane_eq]
      rfl
    · intro hidle hfinishing
      have hstart := hnone hidle hfree hr hq
      exact hstep (by rw [hstart, frameStarts_started (p := a) (.inr hfinishing)])
    · intro c behind hidle hfinishing hintake
      have hresponses : a.lnk.responses = [] := hr
      have hstart := hnone hidle hfree hr hq
      refine hstep ?_
      rw [hstart, frameStarts_finishing (p := a) hfinishing hfree, finishExecution_cons (p := a) hintake, hresponses, List.nil_append]
  · intro a ready
    have ha : announced p = a := announced_eq p
    refine ⟨?_, ?_, fun q => rfl⟩
    · rw [startMeets_iff, ha]
      rfl
    · rw [partFound, ha]
  · rw [byteMeets_iff]
    simp only [frameMeets_iff]

end Sys2Proof.Machine
end

section
/-!
SUPPORT. The bytes on the line: the step of an inbound byte, and the exchange of bytes under SPI (R152, R153, R154, R166).
-/

namespace Sys2Proof.Machine

/-! ### What an event finds -/

/-- What an event that may meet a start finds done keeps the transport and the parser. -/
theorem partFound_transport (lanes : Fin 2 → Bool) (p : Part) : (partFound lanes p).lnk.transport = p.lnk.transport :=
  (congrArg (fun q : Part => q.lnk.transport) (partFound_frame lanes p) :)

theorem partFound_parser (lanes : Fin 2 → Bool) (p : Part) : (partFound lanes p).lnk.parser = p.lnk.parser :=
  (congrArg (fun q : Part => q.lnk.parser) (partFound_frame lanes p) :)

theorem partFound_apart {lanes : Fin 2 → Bool} {p : Part} (h : startMeets lanes p = false) : partFound lanes p = arbitrated p := by
  rw [partFound, h]
  rfl

theorem startAfter_apart {lanes : Fin 2 → Bool} {p : Part} (h : startMeets lanes p = false) (q : Part) : startAfter lanes p q = q := by
  rw [startAfter, h]
  rfl

/-- An event that finds a frame in flight has met no start. -/
theorem startMeets_of_inFlight {lanes : Fin 2 → Bool} {p : Part} {f : InFlight} (h : (partFound lanes p).lnk.inFlight = some f) :
    startMeets lanes p = false := by
  rw [Bool.eq_false_iff]
  intro hmeets
  have hfree : p.lnk.inFlight = none := ((startMeets_iff lanes p).1 hmeets).1
  have hfound : partFound lanes p = announced p := if_pos hmeets
  rw [hfound, announced_frame, hfree] at h
  cases h

/-! ### The step of an inbound byte -/

theorem exec_inboundByte {s : State} {p : Part} {b : Byte} (hp : partFound (byteMeets b s.part.lnk.parser) s.part = p) (pins : ResetPins) :
    exec (.inboundByte ⟨b, pins⟩) s =
      .next (s.withPart (startAfter (byteMeets b s.part.lnk.parser) s.part (byteArrives b pins p))) := by
  rw [← hp]
  rfl

theorem byteArrives_uart {p : Part} (h : p.lnk.transport ≠ .spi) (b : Byte) (pins : ResetPins) : byteArrives b pins p = parseByte b p := by
  unfold byteArrives
  split
  · rfl
  · contradiction

theorem byteArrives_spi {p : Part} (h : p.lnk.transport = .spi) (b : Byte) (pins : ResetPins) :
    byteArrives b pins p = completeFrame pins (parseByte b (exchangeByte p)) := by
  unfold byteArrives
  rw [h]

/-- A byte that is not a sync byte is dropped in HUNT (R155). -/
theorem parseByte_dropped {b : Byte} {p : Part} (hhunt : p.lnk.parser.state = .hunt) (hb : b ≠ 0xC3) : parseByte b p = p := by
  unfold parseByte
  rw [hhunt]
  exact if_neg hb

/-- An exchange with nothing in flight sends the fill byte (R153). -/
theorem exchangeByte_none {p : Part} (h : p.lnk.inFlight = none) : exchangeByte p = { p with lnk := { p.lnk with sdo := 0 } } := by
  simp only [exchangeByte, h]
  rfl

/-- An exchange sends the next byte of the frame in flight (R153). -/
theorem exchangeByte_some {p : Part} {f : InFlight} (h : p.lnk.inFlight = some f) (hbytes : f.exchanged < f.bytes.length) :
    exchangeByte p = { p with lnk := { p.lnk with
      sdo := f.bytes.getD f.exchanged 0
      inFlight := some { f with exchanged := f.exchanged + 1 } } } := by
  rw [exchangeByte, h, Option.map_some, Nat.min_eq_left hbytes]
  rfl

/-! ### The attention line (R154) -/

theorem outboundPending_iff (p : Part) : outboundPending p = true ↔
    p.lnk.responses ≠ [] ∨ p.lnk.reports ≠ [] ∨ (∃ l : Fin 2, p.lanes[l].state = .ready) ∨ p.lnk.inFlight ≠ none := by
  simp only [outboundPending, Bool.or_eq_true, Bool.not_eq_true', List.isEmpty_eq_false_iff, decide_eq_true_eq, Option.isSome_iff_ne_none,
    Fin.exists_fin_two, or_assoc]
  rfl

/-- Settles O45: the attention line by the transport; the exchange of a byte by what is in flight; and the completion step. -/
theorem spiExchangesBytesAndRaisesAttention : Obligations.SpiExchangesBytesAndRaisesAttention := by
  refine ⟨fun p => ⟨fun hspi => ?_, fun r huart => ?_⟩, fun s p b pins hp hspi => ?_, fun s p pins hp => exec_frameComplete hp pins⟩
  · rw [attention, hspi]
    exact outboundPending_iff p
  · rw [attention, huart]
  have hexec := exec_inboundByte hp pins
  rw [byteArrives_spi hspi] at hexec
  refine ⟨fun hnone => ?_, fun f hf hbytes => ?_⟩
  · have hwire := wire_eq_iff.1 (wire_parseByte b { p with lnk := { p.lnk with sdo := 0 } })
    rw [hexec, exchangeByte_none hnone, completeFrame_none (hwire.2.trans hnone)]
  · intro q
    have hapart : startMeets (byteMeets b s.part.lnk.parser) s.part = false := startMeets_of_inFlight (by rw [hp]; exact hf)
    obtain ⟨htransport, hflight⟩ := wire_eq_iff.1 (wire_parseByte b q)
    have hq : exchangeByte p = q := exchangeByte_some hf hbytes
    rw [startAfter_apart hapart, hq] at hexec
    refine ⟨fun hmore => ?_, fun hlast => ⟨hexec, fun hhunt hb hcargo => ?_⟩⟩
    · have hunsent : f.exchanged + 1 < f.bytes.length := by omega
      rw [hexec, completeFrame_unsent hflight (htransport.trans hspi) hunsent]
    · have hsent := completeFrame_sent (p := q) rfl (.inr hlast.ge) pins
      rw [hexec, parseByte_dropped (p := q) hhunt hb, hsent]
      rcases hcargo with h | h <;> rw [h] <;> rfl

end Sys2Proof.Machine
end

section
/-!
SUPPORT. The inbound parser under UART: the rows of its table (R155, R156, R158), and the bytes of a whole frame (section 10.1).
-/

namespace Sys2Proof.Machine

/-! ### When a byte may meet a start -/

/-- A byte that does not end a frame meets no start. -/
theorem byteMeets_open {x : Parser} (h : x.state ≠ .check ∨ x.crcLow = none) (b : Byte) : byteMeets b x = fun _ => false := by
  funext l
  rw [Bool.eq_false_iff]
  intro hmeets
  obtain ⟨low, -, -, -, -, -, hstate, hlow, -⟩ := (byteMeets_iff b x l).1 hmeets
  rcases h with h | h
  · exact h hstate
  · exact nomatch hlow.symm.trans h

/-- The byte that ends a frame meets a start as the frame does if its CRC is good, and else meets none. -/
theorem byteMeets_last {x : Parser} {low n0 n1 kind tag : Byte} {payload : List Byte} (hstate : x.state = .check) (hlow : x.crcLow = some low)
    (hkept : x.kept = n0 :: n1 :: kind :: tag :: payload) (b : Byte) :
    byteMeets b x = if crc16 x.kept = b ++ low then frameMeets kind payload else fun _ => false := by
  funext l
  have hword : byteWord low b = b ++ low := rfl
  rw [byteMeets, hstate, hlow]
  simp only [hkept, hword]
  by_cases hcrc : crc16 (n0 :: n1 :: kind :: tag :: payload) = b ++ low
  · rw [if_pos hcrc, hcrc, beq_self_eq_true, Bool.true_and]
  · rw [if_neg hcrc, beq_false_of_ne hcrc, Bool.false_and]

/-- A frame that is no COMMAND and no ACK of three bytes meets no start. -/
theorem frameMeets_other {kind : Byte} {payload : List Byte} (hcommand : kind ≠ 0x10)
    (hack : kind = 0x11 → ∀ lane seq verdict : Byte, payload ≠ [lane, seq, verdict]) : frameMeets kind payload = fun _ => false := by
  funext l
  rw [Bool.eq_false_iff, Ne, frameMeets_iff]
  rintro (⟨h, -⟩ | ⟨h, lane, seq, verdict, hpayload, -⟩)
  · exact hcommand h
  · exact hack h lane seq verdict hpayload

/-! ### The parser's table (R155) -/

/-- The step of a byte under UART. -/
theorem exec_inboundByte_uart {s : State} {p : Part} {b : Byte} (hp : partFound (byteMeets b s.part.lnk.parser) s.part = p)
    (huart : p.lnk.transport ≠ .spi) (pins : ResetPins) :
    exec (.inboundByte ⟨b, pins⟩) s =
      .next (s.withPart (startAfter (byteMeets b s.part.lnk.parser) s.part (parseByte b p))) := by
  rw [exec_inboundByte hp, byteArrives_uart huart]

/-- The step of a byte that meets no start, as an event that finds the due start made. -/
theorem exec_inboundByte_apart {s : State} {b : Byte} (huart : s.part.lnk.transport ≠ .spi)
    (h : byteMeets b s.part.lnk.parser = fun _ => false) (pins : ResetPins) :
    exec (.inboundByte ⟨b, pins⟩) s = onEvent (parseByte b) s := by
  have hfound := exec_inboundByte_uart (s := s) (b := b) rfl (by rwa [partFound_transport]) pins
  have hstarts : startMeets (byteMeets b s.part.lnk.parser) s.part = false := by rw [h, startMeets_nowhere]
  rw [hfound, startAfter_apart hstarts, partFound_apart hstarts, onEvent_eq]

theorem parseByte_hunt {b : Byte} {p : Part} (h : p.lnk.parser.state = .hunt) :
    parseByte b p = if b = 0xC3 then setParser { Parser.hunting with state := .length } p else p := by
  rw [parseByte, h]

theorem parseByte_length {b : Byte} {p : Part} (h : p.lnk.parser.state = .length) : parseByte b p = takeLengthByte b p.lnk.parser p := by
  rw [parseByte, h]

theorem parseByte_body {b : Byte} {p : Part} (h : p.lnk.parser.state = .body) : parseByte b p = takeBodyByte b p.lnk.parser p := by
  rw [parseByte, h]

theorem parseByte_check {b : Byte} {p : Part} (h : p.lnk.parser.state = .check) : parseByte b p = takeCheckByte b p.lnk.parser p := by
  rw [parseByte, h]

theorem takeLengthByte_first {b : Byte} {x : Parser} {p : Part} (h : x.kept = []) :
    takeLengthByte b x p = setParser { x with kept := [b], gap := 0 } p := by
  rw [takeLengthByte, h]

/-- The second length byte: a length from 2 to 1,026 opens the body, another discards the frame (R155, R156). -/
theorem takeLengthByte_second {b low : Byte} {x : Parser} {p : Part} (h : x.kept = [low]) : takeLengthByte b x p =
    if 2 ≤ low.toNat + 256 * b.toNat ∧ low.toNat + 256 * b.toNat ≤ 1026 then
      setParser { x with state := .body, kept := [low, b], length := low.toNat + 256 * b.toNat, gap := 0 } p
    else discardFrame .length none p := by
  have hgood : ∀ n, lengthGood n = true ↔ 2 ≤ n ∧ n ≤ 1026 := fun n => by
    rw [lengthGood, Bool.and_eq_true, decide_eq_true_eq, decide_eq_true_eq]
    rfl
  have hnumber : leNat [low, b] = low.toNat + 256 * b.toNat := rfl
  rw [takeLengthByte, h]
  simp only [hgood, hnumber]

theorem takeCheckByte_low {b : Byte} {x : Parser} {p : Part} (h : x.crcLow = none) :
    takeCheckByte b x p = setParser { x with crcLow := some b, gap := 0 } p := by
  rw [takeCheckByte, h]

/-- The second CRC byte judges the frame (R156, R158). -/
theorem takeCheckByte_high {b low n0 n1 kind tag : Byte} {payload : List Byte} {x : Parser} {p : Part} (hlow : x.crcLow = some low)
    (hkept : x.kept = n0 :: n1 :: kind :: tag :: payload) : takeCheckByte b x p =
      if crc16 x.kept = b ++ low then judgeKind kind tag payload p else discardFrame .crc (some tag) p := by
  rw [takeCheckByte, hlow, hkept]
  rfl

/-! ### The judgement of a whole frame (R156, R158, R175) -/

/-- An ACK frame whose payload is not three bytes is discarded as LENGTH (R158). -/
theorem judgeKind_ackLength {payload : List Byte} (h : ∀ lane seq verdict : Byte, payload ≠ [lane, seq, verdict]) (tag : Byte) :
    judgeKind 0x11 tag payload = discardFrame .length (some tag) := by
  funext p
  change (match payload with
    | [lane, seq, verdict] => ackArrives lane seq verdict p
    | _ => discardFrame .length (some tag) p) = _
  split
  · exact absurd rfl (h _ _ _)
  · rfl

theorem judgeKind_other {kind : Byte} (hcommand : kind ≠ 0x10) (hack : kind ≠ 0x11) (tag : Byte) (payload : List Byte) :
    judgeKind kind tag payload = discardFrame .kind (some tag) := by
  funext p
  unfold judgeKind
  rw [if_neg hcommand, if_neg hack]

section LastByte

variable {s : State} {b low n0 n1 kind tag : Byte} {payload : List Byte}

/-- The last byte of a frame with a good CRC: the frame goes where its kind sends it (R158). -/
theorem exec_inboundByte_judged (huart : s.part.lnk.transport ≠ .spi) (hstate : s.part.lnk.parser.state = .check)
    (hlow : s.part.lnk.parser.crcLow = some low) (hkept : s.part.lnk.parser.kept = n0 :: n1 :: kind :: tag :: payload)
    (hcrc : crc16 s.part.lnk.parser.kept = b ++ low) (pins : ResetPins) :
    exec (.inboundByte ⟨b, pins⟩) s = onMeeting (frameMeets kind payload) (judgeKind kind tag payload) s := by
  have hmeets : byteMeets b s.part.lnk.parser = frameMeets kind payload := (byteMeets_last hstate hlow hkept b).trans (if_pos hcrc)
  have hbyte := exec_inboundByte_uart (s := s) (b := b) rfl (by rwa [partFound_transport]) pins
  rw [hmeets] at hbyte
  have hparser := partFound_parser (frameMeets kind payload) s.part
  rw [hbyte, onMeeting_eq, parseByte_check (hparser ▸ hstate), takeCheckByte_high (hparser ▸ hlow) (hparser ▸ hkept), hparser, if_pos hcrc]

/-- The last byte of a frame whose CRC differs (R156). -/
theorem exec_inboundByte_badCrc (huart : s.part.lnk.transport ≠ .spi) (hstate : s.part.lnk.parser.state = .check)
    (hlow : s.part.lnk.parser.crcLow = some low) (hkept : s.part.lnk.parser.kept = n0 :: n1 :: kind :: tag :: payload)
    (hcrc : crc16 s.part.lnk.parser.kept ≠ b ++ low) (pins : ResetPins) :
    exec (.inboundByte ⟨b, pins⟩) s = exec (.frameDiscard .badCrc (some tag)) s := by
  have hnowhere : byteMeets b s.part.lnk.parser = fun _ => false := (byteMeets_last hstate hlow hkept b).trans (if_neg hcrc)
  have hparser : (arbitrated s.part).lnk.parser = s.part.lnk.parser := (congrArg (fun q : Part => q.lnk.parser) (arbitrated_frame s.part) :)
  rw [exec_inboundByte_apart huart hnowhere, onEvent_eq, parseByte_check (hparser ▸ hstate), takeCheckByte_high (hparser ▸ hlow) (hparser ▸ hkept),
    hparser, if_neg hcrc]
  rfl

/-- The last byte of a good ACK frame whose payload is not three bytes. -/
theorem onMeeting_ackLength (h : ∀ lane seq verdict : Byte, payload ≠ [lane, seq, verdict]) :
    onMeeting (frameMeets 0x11 payload) (judgeKind 0x11 tag payload) s = exec (.frameDiscard .badLength (some tag)) s := by
  rw [frameMeets_other (by decide) (fun _ => h), judgeKind_ackLength h, onMeeting_nowhere]
  rfl

/-- The last byte of a good frame of a kind that the host does not send. -/
theorem onMeeting_badKind (hcommand : kind ≠ 0x10) (hack : kind ≠ 0x11) :
    onMeeting (frameMeets kind payload) (judgeKind kind tag payload) s = exec (.frameDiscard .badKind (some tag)) s := by
  rw [frameMeets_other hcommand (fun h => absurd h hack), judgeKind_other hcommand hack, onMeeting_nowhere]
  rfl

end LastByte

/-- Settles O50: a row of the parser's table for each state, and the judgement of a whole frame at its last byte. -/
theorem inboundByteDrivesTheParser : Obligations.InboundByteDrivesTheParser := by
  intro s p b pins rate hp hrate x parsed
  have huart : p.lnk.transport ≠ .spi := by rw [hrate]; nofun
  have hsuart : s.part.lnk.transport ≠ .spi := by rwa [← partFound_transport, hp]
  have hparser : s.part.lnk.parser = x := by rw [← partFound_parser, hp]
  have hrow : ∀ {q : Part}, x.state ≠ .check ∨ x.crcLow = none → parseByte b p = q →
      exec (.inboundByte ⟨b, pins⟩) s = .next (s.withPart q) := fun hopen hq => by
    have hnowhere : byteMeets b s.part.lnk.parser = fun _ => false := by rw [hparser, byteMeets_open hopen]
    have hfound : arbitrated s.part = p := by rw [← hp, hnowhere, partFound_apart (startMeets_nowhere s.part)]
    rw [exec_inboundByte_apart hsuart hnowhere, onEvent_eq, hfound, hq]
  refine ⟨exec_inboundByte_uart hp huart pins, fun hhunt hb => ?_, fun hhunt hb => ?_, fun hlength hkept => ?_, fun low hlength hkept => ?_,
    fun hbody => ?_, fun hcheck hlow => ?_, fun low n0 n1 kind tag payload hcheck hlow hkept => ?_⟩
  · exact hrow (.inl (by rw [hhunt]; nofun)) (parseByte_dropped hhunt hb)
  · exact hrow (.inl (by rw [hhunt]; nofun)) ((parseByte_hunt hhunt).trans (if_pos hb))
  · exact hrow (.inl (by rw [hlength]; nofun)) ((parseByte_length hlength).trans (takeLengthByte_first hkept))
  · exact hrow (.inl (by rw [hlength]; nofun)) ((parseByte_length hlength).trans (takeLengthByte_second hkept))
  · refine hrow (.inl (by rw [hbody]; nofun)) ((parseByte_body hbody).trans ?_)
    rw [takeBodyByte, List.length_append]
    rfl
  · exact hrow (.inr hlow) ((parseByte_check hcheck).trans (takeCheckByte_low hlow))
  · have hstate : s.part.lnk.parser.state = .check := hparser ▸ hcheck
    have hslow : s.part.lnk.parser.crcLow = some low := hparser ▸ hlow
    have hskept : s.part.lnk.parser.kept = n0 :: n1 :: kind :: tag :: payload := hparser ▸ hkept
    by_cases hcrc : crc16 x.kept = b ++ low
    · rw [if_neg (not_not_intro hcrc), exec_inboundByte_judged hsuart hstate hslow hskept (hparser ▸ hcrc)]
      by_cases hcommand : kind = 0x10
      · subst hcommand
        rfl
      rw [if_neg hcommand]
      by_cases hack : kind = 0x11
      · subst hack
        rw [if_pos rfl]
        clear hkept hskept
        split
        · rfl
        · exact onMeeting_ackLength (by assumption)
      · rw [if_neg hack]
        exact onMeeting_badKind hcommand hack
    · rw [if_pos hcrc]
      exact exec_inboundByte_badCrc hsuart hstate hslow hskept (hparser ▸ hcrc) pins

end Sys2Proof.Machine
end

section
/-!
SUPPORT. The bytes of a whole frame, taken one by one (section 10.1, R155).
-/

namespace Sys2Proof.Machine

/-! ### Runs of the queue -/

/-- A run takes its first step. -/
theorem run_of_step {M : Host.Core} {s t : M.State} (h : M.step s = .next t) (n : Nat) : M.run (n + 1) s = M.run n t := by
  rw [Host.Core.run, h]

/-- A run takes the step at the front of the queue. -/
theorem run_next {c : Instr} {s t : State} {rest : List Instr} (hs : s.pending = c :: rest) (h : exec c { s with pending := rest } = .next t)
    (n : Nat) : Host.Core.run core (n + 1) s = Host.Core.run core n t := by
  have hstep : step s = .next t := by rw [step, hs, ← h]
  exact run_of_step (M := core) hstep n

/-- A run of one step is that step. -/
theorem run_one {c : Instr} {s : State} {rest : List Instr} (hs : s.pending = c :: rest) :
    Host.Core.run core 1 s = exec c { s with pending := rest } := by
  obtain ⟨p, h⟩ := exec_next c { s with pending := rest }
  rw [run_next hs h, h]
  rfl

/-! ### A frame in the parser -/

/-- What the parser holds changes nothing for the arbiter. -/
theorem arbitrated_setParser {p : Part} (hp : arbitrated p = p) (x : Parser) : arbitrated (setParser x p) = setParser x p := by
  have hready : readyLane (setParser x p) = readyLane p := rfl
  have hannounced : announced (setParser x p) = setParser x p := announced_eq_self (fun l => by
    have hlane := announcedLane_arbitrated p l
    rwa [hp] at hlane)
  rw [arbitrated, hannounced]
  rcases arbitrated_rests p with hbusy | ⟨hsame, hresponses, hreports, hnone⟩
  · rw [hp] at hbusy
    exact startFrame_busy hbusy
  · rw [← hsame, hp] at hresponses hreports hnone
    unfold startFrame
    have hr : (setParser x p).lnk.responses = [] := hresponses
    have hq : (setParser x p).lnk.reports = [] := hreports
    rw [hr, hq, hready, hnone]
    exact ite_self _

/-- The part `p` with a frame in the parser and steps waiting. -/
def parsing (p : Part) (x : Parser) (waiting : List Instr) : State :=
  { part := setParser x p, pending := waiting }

/-- The bytes as steps of the queue. -/
def bytesArrive (pins : ResetPins) (bytes : List Byte) : List Instr :=
  bytes.map fun b => .inboundByte ⟨b, pins⟩

section Bytes

variable {p : Part} (pins : ResetPins)

/-- A byte that does not end a frame is taken by the parser alone, once the due start has been made. -/
theorem run_openByte (hp : arbitrated p = p) (huart : p.lnk.transport ≠ .spi) {x y : Parser} {b : Byte} (hopen : x.state ≠ .check ∨ x.crcLow = none)
    (hparse : parseByte b (setParser x p) = setParser y p) (more : List Instr) (n : Nat) :
    Host.Core.run core (n + 1) (parsing p x (.inboundByte ⟨b, pins⟩ :: more)) = Host.Core.run core n (parsing p y more) := by
  refine run_next rfl ?_ n
  have happart := exec_inboundByte_apart (s := parsing p x more) (b := b) huart (byteMeets_open hopen b) pins
  have harbitrated : arbitrated (parsing p x more).part = setParser x p := arbitrated_setParser hp x
  refine happart.trans ?_
  rw [onEvent_eq, harbitrated, hparse]
  rfl

/-- The bytes of the kind, the tag and the payload, up to the last (R155). -/
theorem run_bodyBytes (hp : arbitrated p = p) (huart : p.lnk.transport ≠ .spi) (more : List Instr) (n length : Nat) :
    ∀ (b : Byte) (bytes kept : List Byte), kept.length + (bytes.length + 1) = length + 2 →
      Host.Core.run core (n + (bytes.length + 1))
          (parsing p { state := .body, kept := kept, length := length, crcLow := none, gap := 0 } (bytesArrive pins (b :: bytes) ++ more)) =
        Host.Core.run core n
          (parsing p { state := .check, kept := kept ++ b :: bytes, length := length, crcLow := none, gap := 0 } more) := by
  intro b bytes
  have htake : ∀ (b : Byte) (kept : List Byte), parseByte b
      (setParser { state := .body, kept := kept, length := length, crcLow := none, gap := 0 } p) =
      setParser { state := if length + 2 ≤ kept.length + 1 then .check else .body, kept := kept ++ [b], length := length, crcLow := none, gap := 0 } p :=
    fun b kept => by
      rw [parseByte_body rfl, takeBodyByte, List.length_append]
      rfl
  induction bytes generalizing b with
  | nil =>
    intro kept hlength
    have hlast : length + 2 ≤ kept.length + 1 := by simp only [List.length_nil] at hlength; omega
    refine run_openByte pins hp huart (.inl (nofun : ParserState.body ≠ .check)) ?_ more n
    rw [htake, if_pos hlast]
  | cons c bytes ih =>
    intro kept hlength
    rw [List.length_cons] at hlength
    have hmore : ¬ length + 2 ≤ kept.length + 1 := by omega
    have hbyte := run_openByte pins hp huart (.inl (nofun : ParserState.body ≠ .check)) ((htake b kept).trans (by rw [if_neg hmore]))
      (bytesArrive pins (c :: bytes) ++ more) (n + (bytes.length + 1))
    have hrest := ih c (kept ++ [b]) (by rw [List.length_append, List.length_singleton]; omega)
    rw [List.append_assoc] at hrest
    exact hbyte.trans hrest

end Bytes

/-- The number of a length is read back from its two bytes. -/
theorem leBytes_two_number {n : Nat} (h : n < 65536) : (BitVec.ofNat 8 n).toNat + 256 * (BitVec.ofNat 8 (n / 256)).toNat = n := by
  simp only [BitVec.toNat_ofNat]
  omega

/-- The bytes of a frame up to the last leave the frame whole in the parser; the last has the frame's effect (section 10.1, R155). -/
theorem run_frameBytes {s : State} (huart : s.part.lnk.transport ≠ .spi) (hparser : s.part.lnk.parser = Parser.hunting) (pins : ResetPins)
    (kind tag : Byte) (payload : List Byte) (hlength : payload.length ≤ 1024) :
    Host.Core.run core (payload.length + 7) { s with pending := bytesArrive pins (frameBytes kind tag payload) ++ s.pending } =
      exec (.inboundByte ⟨(crc16 (frameBody kind tag payload)).extractLsb' 8 8, pins⟩) (parsing (arbitrated s.part)
        { state := .check, kept := frameBody kind tag payload, length := payload.length + 2
          crcLow := some ((crc16 (frameBody kind tag payload)).extractLsb' 0 8), gap := 0 } s.pending) := by
  have hp := arbitrated_idem s.part
  have hfound : (arbitrated s.part).lnk.transport ≠ .spi := by rwa [arbitrated_frame]
  set p := arbitrated s.part with hpart
  set low := (crc16 (frameBody kind tag payload)).extractLsb' 0 8 with hlow
  set high := (crc16 (frameBody kind tag payload)).extractLsb' 8 8 with hhigh
  set n0 : Byte := BitVec.ofNat 8 (payload.length + 2) with hn0
  set n1 : Byte := BitVec.ofNat 8 ((payload.length + 2) / 256) with hn1
  have hbody : frameBody kind tag payload = n0 :: n1 :: kind :: tag :: payload := rfl
  have hnumber : n0.toNat + 256 * n1.toNat = payload.length + 2 := leBytes_two_number (by omega)
  have hbytes : bytesArrive pins (frameBytes kind tag payload) ++ s.pending =
      .inboundByte ⟨0xC3, pins⟩ :: .inboundByte ⟨n0, pins⟩ :: .inboundByte ⟨n1, pins⟩ ::
        (bytesArrive pins (kind :: tag :: payload) ++ (.inboundByte ⟨low, pins⟩ :: .inboundByte ⟨high, pins⟩ :: s.pending)) := by
    rw [frameBytes, hbody, wordBytes]
    simp only [bytesArrive, List.map_cons, List.map_append, List.cons_append, List.append_assoc]
    rfl
  have hmarker (more : List Instr) (n : Nat) : Host.Core.run core (n + 1) { s with pending := .inboundByte ⟨0xC3, pins⟩ :: more } =
      Host.Core.run core n (parsing p { Parser.hunting with state := .length } more) := by
    refine run_next rfl ?_ n
    have hopen : s.part.lnk.parser.state ≠ .check ∨ s.part.lnk.parser.crcLow = none := .inr (by rw [hparser]; rfl)
    have hhunt : p.lnk.parser.state = .hunt := by rw [hpart, arbitrated_frame, hparser]; rfl
    refine (exec_inboundByte_apart (s := { s with pending := more }) huart (byteMeets_open hopen 0xC3) pins).trans ?_
    rw [onEvent_eq, ← hpart, parseByte_hunt hhunt]
    rfl
  have hfirst : parseByte n0 (setParser { Parser.hunting with state := .length } p) =
      setParser { state := .length, kept := [n0], length := 0, crcLow := none, gap := 0 } p :=
    (parseByte_length rfl).trans (takeLengthByte_first rfl)
  have hsecond : parseByte n1 (setParser { state := .length, kept := [n0], length := 0, crcLow := none, gap := 0 } p) =
      setParser { state := .body, kept := [n0, n1], length := payload.length + 2, crcLow := none, gap := 0 } p := by
    rw [parseByte_length rfl, takeLengthByte_second (low := n0) rfl, hnumber, if_pos ⟨by omega, by omega⟩]
    rfl
  have hcrc : parseByte low (setParser { state := .check, kept := frameBody kind tag payload, length := payload.length + 2, crcLow := none, gap := 0 } p) =
      setParser { state := .check, kept := frameBody kind tag payload, length := payload.length + 2, crcLow := some low, gap := 0 } p :=
    (parseByte_check rfl).trans (takeCheckByte_low rfl)
  have hkept := run_bodyBytes pins hp hfound (.inboundByte ⟨low, pins⟩ :: .inboundByte ⟨high, pins⟩ :: s.pending) 2 (payload.length + 2)
    kind (tag :: payload) [n0, n1] (by simp only [List.length_cons, List.length_nil]; omega)
  have hcount : payload.length + 7 = (2 + (payload.length + 1 + 1)) + 1 + 1 + 1 := by omega
  rw [hbytes, hcount, hmarker, run_openByte pins hp hfound (.inl (nofun : ParserState.length ≠ .check)) hfirst, run_openByte pins hp hfound (.inl (nofun : ParserState.length ≠ .check)) hsecond]
  refine hkept.trans ?_
  rw [List.cons_append, List.cons_append, List.nil_append, ← hbody, run_openByte pins hp hfound (.inr rfl) hcrc]
  exact run_one rfl

/-- An event that takes the frame out of the parser has the effect that it has with the parser empty. -/
theorem onMeeting_parsing {p : Part} (hp : arbitrated p = p) (lanes : Fin 2 → Bool) {f : Part → Part} (hf : ∀ x, f (setParser x p) = f p)
    (x : Parser) (s : State) : onMeeting lanes f (parsing p x s.pending) = onMeeting lanes f (s.withPart p) := by
  have hmeets : ∀ {q : Part}, arbitrated q = q → startMeets lanes q = false := fun h => by rw [← h, startMeets_arbitrated]
  have hx := arbitrated_setParser hp x
  rw [onMeeting_apart (s := parsing p x s.pending) (hmeets hx), onMeeting_apart (s := s.withPart p) (hmeets hp), onEvent_eq, onEvent_eq]
  have hpart : (parsing p x s.pending).part = setParser x p := rfl
  rw [hpart, hx, hf, State.withPart_part, hp]
  rfl

/-- Settles O52: the bytes up to the last leave the frame whole in the parser, and the last has the effect of the frame. -/
theorem frameBytesHaveTheEffectOfTheFrame : Obligations.FrameBytesHaveTheEffectOfTheFrame := by
  intro s rate pins hrate hparser
  have huart : s.part.lnk.transport ≠ .spi := by rw [hrate]; nofun
  have hfound : (arbitrated s.part).lnk.transport ≠ .spi := by rwa [arbitrated_frame]
  have hp := arbitrated_idem s.part
  have hcrc (kind tag : Byte) (payload : List Byte) : crc16 (frameBody kind tag payload) =
      (crc16 (frameBody kind tag payload)).extractLsb' 8 8 ++ (crc16 (frameBody kind tag payload)).extractLsb' 0 8 := by
    generalize crc16 (frameBody kind tag payload) = w
    exact ((BitVec.extractLsb'_append_extractLsb'_eq_extractLsb' (x := w) (start₁ := 0) (len₁ := 8) (len₂ := 8) rfl).trans BitVec.extractLsb'_eq_self).symm
  refine ⟨fun tag payload hlength => ?_, fun tag lane seq verdict => ?_⟩
  · refine (run_frameBytes huart hparser pins 0x10 tag payload hlength).trans ?_
    refine (exec_inboundByte_judged hfound rfl rfl rfl (hcrc _ _ _) pins).trans ?_
    exact onMeeting_parsing hp _ (fun _ => rfl) _ s
  · refine (run_frameBytes huart hparser pins 0x11 tag [lane, seq, verdict] (Nat.le_of_ble_eq_true rfl)).trans ?_
    refine (exec_inboundByte_judged hfound rfl rfl rfl (hcrc _ _ _) pins).trans ?_
    exact onMeeting_parsing hp _ (fun _ => rfl) _ s

end Sys2Proof.Machine
end

section
/-!
SUPPORT. LNK's side of a COMMAND frame: the checks of its payload (R162, R173), and its admission (R159, R160, R161).
-/

namespace Sys2Proof.Machine

/-! ### The payload's length (R173) -/

section Readers

variable {code : Byte} (args : List Byte)

/-- What a reader of a known code's arguments answers: the command, or that the length is wrong. -/
def Decoded.Read (code : Byte) (r : Decoded) : Prop :=
  (∃ c, r = .command c) ∨ r = .badLength code

theorem readNone_reads (c : Command) : (readNone code c args).Read code := by
  unfold readNone
  split
  · exact .inl ⟨_, rfl⟩
  · exact .inr rfl

theorem readOne_reads (f : Byte → Command) : (readOne code f args).Read code := by
  unfold readOne
  split
  · exact .inl ⟨_, rfl⟩
  · exact .inr rfl

theorem readTwo_reads (f : Byte → Byte → Command) : (readTwo code f args).Read code := by
  unfold readTwo
  split
  · exact .inl ⟨_, rfl⟩
  · exact .inr rfl

theorem readThree_reads (f : Byte → Byte → Byte → Command) : (readThree code f args).Read code := by
  unfold readThree
  split
  · exact .inl ⟨_, rfl⟩
  · exact .inr rfl

theorem readId_reads (f : BitVec 16 → Command) : (readId code f args).Read code := by
  unfold readId
  split
  · exact .inl ⟨_, rfl⟩
  · exact .inr rfl

theorem readSamplingSet_reads : (readSamplingSet code args).Read code := by
  unfold readSamplingSet
  split
  · exact .inl ⟨_, rfl⟩
  · exact .inr rfl

theorem readDetectorSet_reads : (readDetectorSet code args).Read code := by
  unfold readDetectorSet
  split
  · exact .inl ⟨_, rfl⟩
  · exact .inr rfl

theorem readPlanDefine_reads : (readPlanDefine code args).Read code := by
  unfold readPlanDefine
  split
  · exact .inl ⟨_, rfl⟩
  · exact .inr rfl

theorem readLaneSet_reads : (readLaneSet code args).Read code := by
  unfold readLaneSet
  split
  · exact .inl ⟨_, rfl⟩
  · exact .inr rfl

end Readers

/-- The arguments of a code of the command table are read, or have a wrong length. -/
theorem decodeArgs_reads {code : Byte} {n : Nat} (h : commandLength code = some n) (args : List Byte) : (decodeArgs code args).Read code := by
  unfold decodeArgs
  split
  case h_1 | h_2 | h_5 | h_6 | h_18 => exact readNone_reads args _
  case h_3 | h_9 | h_12 | h_14 | h_15 | h_17 | h_23 | h_24 => exact readOne_reads args _
  case h_7 | h_8 | h_16 => exact readTwo_reads args _
  case h_10 => exact readThree_reads args _
  case h_19 | h_20 | h_21 => exact readId_reads args _
  case h_4 => exact readSamplingSet_reads args
  case h_11 => exact readDetectorSet_reads args
  case h_13 => exact readPlanDefine_reads args
  case h_22 => exact readLaneSet_reads args
  case h_25 =>
    unfold commandLength at h
    split at h
    case h_25 => cases h
    all_goals contradiction

/-- A code that is not in the command table is unknown, whatever follows it. -/
theorem decodeArgs_unknown {code : Byte} (h : commandLength code = none) (args : List Byte) : decodeArgs code args = .unknown code := by
  unfold decodeArgs
  split
  case h_25 => rfl
  all_goals
    rename_i hcode
    rw [commandLength, hcode] at h
    cases h

/-- A known code with another payload length than the table's is read as such. -/
theorem decodePayload_badLength {code : Byte} {args : List Byte} {n : Nat} (h : commandLength code = some n)
    (hlength : (code :: args).length ≠ n) : decodePayload (code :: args) = .badLength code := by
  rcases decodeArgs_reads h args with ⟨c, hc⟩ | hbad
  · have hpayload : encodeCommand c = code :: args := encodeCommand_of_decodePayload hc
    have hcode : commandCode c = code := (List.cons.inj hpayload).1
    have htable := commandLength_commandCode c
    rw [hcode, h, hpayload] at htable
    exact absurd (Option.some.inj htable).symm hlength
  · exact hbad

/-- An empty payload and a code that is not in the command table are unknown. -/
theorem decodePayload_unknown {payload : List Byte} (h : payload = [] ∨ commandLength (payload.headD 0) = none) :
    decodePayload payload = .unknown (payload.headD 0) := by
  cases payload with
  | nil => rfl
  | cons code args => exact decodeArgs_unknown (h.resolve_left nofun) args

/-- A payload that LNK does not read as a command is answered and changes nothing else (R162, R173). -/
theorem exec_commandFrame_refused {s : State} {p : Part} {tag : Byte} {payload : List Byte} (hp : arbitrated s.part = p) (h : Accepts tag p)
    (status : Status) (hnowhere : payloadMeets payload = fun _ => false) (hrun : ∀ q, runPayload payload q = refuse status q) :
    exec (.commandFrame tag payload) s = .next (s.withPart (Part.answered tag (payloadCode payload) status [] p)) := by
  have hexec : exec (.commandFrame tag payload) s = onEvent (commandArrives tag payload) s := by
    rw [← onMeeting_nowhere, ← hnowhere]
    rfl
  obtain ⟨-, hin, -⟩ := id h
  rw [hexec, onEvent_eq, hp, commandArrives_accepts h, hrun, refuse_holding hin]

/-- Settles O48: a payload that LNK reads as unknown or as one of a wrong length is refused before it reaches an owner. -/
theorem linkChecksAnswerWithoutEffect : Obligations.LinkChecksAnswerWithoutEffect := by
  intro s p tag payload hp haccepts
  refine ⟨fun hunknown => ⟨?_, rfl⟩, fun code args n hpayload hcode hlength => ?_⟩
  · have hread := decodePayload_unknown hunknown
    have hcode : payload.headD 0 = payloadCode payload := by cases payload <;> rfl
    rw [hcode]
    refine exec_commandFrame_refused hp haccepts .unknownCommand ?_ fun q => ?_
    · funext l
      rw [payloadMeets, hread]
    · rw [runPayload, hread]
  · subst hpayload
    have hread := decodePayload_badLength hcode hlength
    refine exec_commandFrame_refused hp haccepts .badLength ?_ fun q => ?_
    · funext l
      rw [payloadMeets, hread]
    · rw [runPayload, hread]

end Sys2Proof.Machine
end

section
/-!
SUPPORT. The admission of a COMMAND frame (R159, R160, R161), and the row that stands for the command it carries.
-/

namespace Sys2Proof.Machine

/-! ### Admission (R159) -/

/-- The status with which the first of admission's checks that applies refuses a frame (R159). -/
def admissionRefusal (tag : Byte) (p : Part) : Option Status :=
  if tag = 0 then some .badArg
  else if ∃ c ∈ p.lnk.intake, c.tag = tag then some .tagInUse
  else if 4 ≤ intakeLoad p.lnk then some .overflow
  else none

/-- Admission refuses by its first check that applies, and else admits. -/
theorem takeCommand_eq (tag : Byte) (payload : List Byte) (p : Part) : takeCommand tag payload p =
    match admissionRefusal tag p with
    | some status => refuseFrame tag payload status p
    | none => admitCommand tag payload p := by
  have hinUse : p.lnk.intake.any (fun c => c.tag == tag) = true ↔ ∃ c ∈ p.lnk.intake, c.tag = tag := by
    simp only [List.any_eq_true, beq_iff_eq]
  have hplaces : Config.intakePlaces = 4 := rfl
  unfold takeCommand admissionRefusal
  simp only [hinUse, hplaces]
  by_cases htag : tag = 0
  · rw [if_pos htag, if_pos htag]
  rw [if_neg htag, if_neg htag]
  by_cases huse : ∃ c ∈ p.lnk.intake, c.tag = tag
  · rw [if_pos huse, if_pos huse]
  rw [if_neg huse, if_neg huse]
  by_cases hload : 4 ≤ intakeLoad p.lnk
  · rw [if_pos hload, if_pos hload]
  · rw [if_neg hload, if_neg hload]

/-- An immediate response, or the discard of the frame with cause NO_ROOM (R159). -/
theorem refuseFrame_eq (tag : Byte) (payload : List Byte) (status : Status) (p : Part) : refuseFrame tag payload status p =
    if unreservedInUse p.lnk < 4 then
      { p with lnk := { p.lnk with responses := p.lnk.responses ++ [immediateResponse tag (payload.headD 0) status] } }
    else postReport (.linkError .noRoom (some tag)) { p with lnk := { p.lnk with
      errors := { p.lnk.errors with noRoom := min (p.lnk.errors.noRoom + 1) 65535 } } } := by
  have hcode : payloadCode payload = payload.headD 0 := by cases payload <;> rfl
  rw [refuseFrame, hcode]
  rfl

theorem executing_iff (p : Part) : executing p = true ↔ p.trg.run ≠ none ∨ p.lnk.finishing = true ∨ p.lnk.resetting = true := by
  simp only [executing, Bool.or_eq_true, Option.isSome_iff_ne_none, or_assoc]

/-- With a command in execution, the commands of the intake queue wait (R161). -/
theorem drain_executing {p : Part} (h : executing p = true) : drain p = p :=
  executeFor_executing h _

/-! ### The command that a frame carries -/

/-- A COMMAND frame that carries a command, as the arrival of that command. -/
theorem exec_commandFrame_encode (tag : Byte) (c : Command) (s : State) :
    exec (.commandFrame tag (encodeCommand c)) s = onMeeting (fun _ => commandMeets c) (hostCommand tag c) s := by
  rw [← payloadMeets_command (decodePayload_encodeCommand c)]
  rfl

theorem exec_commandFrame_apart {c : Command} (h : commandMeets c = false) (tag : Byte) (s : State) :
    exec (.commandFrame tag (encodeCommand c)) s = onEvent (hostCommand tag c) s := by
  rw [exec_commandFrame_encode, h, onMeeting_nowhere]

/-- A command's row, where it has one, is the step of the frame that carries it. -/
theorem exec_commandFrame_row {tag : Byte} {c : Command} {i : Instr} (h : commandRow tag c = some i) (s : State) :
    exec (.commandFrame tag (encodeCommand c)) s = exec i s := by
  cases c with
  | reset mode =>
    rw [commandRow] at h
    split at h
    · rename_i hmode
      cases h
      subst hmode
      exact exec_commandFrame_apart rfl tag s
    · split at h
      · rename_i hmode
        cases h
        subst hmode
        exact exec_commandFrame_encode tag (.reset 1) s
      · cases h
  | planStop plan mode =>
    rw [exec_commandFrame_apart rfl]
    rw [commandRow] at h
    split at h
    · rename_i hmode
      cases h
      subst hmode
      rfl
    · split at h
      · rename_i hmode
        cases h
        subst hmode
        rfl
      · cases h
  | recordDiscard id =>
    cases h
    exact exec_commandFrame_encode tag (.recordDiscard id) s
  | _ =>
    cases h
    exact exec_commandFrame_apart rfl tag s

/-- A command of no row, on a part that accepts it (R173). -/
theorem exec_commandFrame_badArg {s : State} {p : Part} {tag : Byte} (hp : arbitrated s.part = p) (h : Accepts tag p) {c : Command}
    (hmeets : commandMeets c = false) (hrun : ∀ q, runCommand c q = refuse .badArg q) :
    exec (.commandFrame tag (encodeCommand c)) s = .next (s.withPart (Part.answered tag (commandCode c) .badArg [] p)) := by
  obtain ⟨-, hin, -⟩ := id h
  rw [exec_commandFrame_apart hmeets]
  exact onEvent_command hp h c (by rw [hrun]; exact refuse_holding hin tag (encodeCommand c) .badArg)

/-- Settles O46: admission by its checks, then the frame of each command, then the two commands whose mode names no mode. -/
theorem commandFrameIsAdmittedOrRefused : Obligations.CommandFrameIsAdmittedOrRefused := by
  refine ⟨fun s p tag payload hp => ?_, fun s tag c i hrow => exec_commandFrame_row hrow s, fun s p tag plan mode hp haccepts hmode => ⟨?_, ?_⟩⟩
  · have harrives : exec (.commandFrame tag payload) s =
        .next (s.withPart (startAfter (payloadMeets payload) s.part (commandArrives tag payload p))) := by
      rw [← hp]
      rfl
    intro base refusal queued
    have hrefusal : admissionRefusal tag base = refusal := rfl
    have hexec : ∀ {q : Part}, takeCommand tag payload base = q →
        exec (.commandFrame tag payload) s = .next (s.withPart (startAfter (payloadMeets payload) s.part q)) := fun hq => hq ▸ harrives
    refine ⟨fun status hstatus => hexec ?_, fun hadmitted => ?_⟩
    · rw [takeCommand_eq, hrefusal, hstatus]
      exact refuseFrame_eq tag payload status base
    · have htaken : takeCommand tag payload base = drain queued := by
        rw [takeCommand_eq, hrefusal, hadmitted]
        rfl
      exact ⟨fun hexecuting => hexec (htaken.trans (drain_executing ((executing_iff queued).2 hexecuting))), fun _ _ _ => hexec htaken⟩
  · refine exec_commandFrame_badArg hp haccepts (c := .reset mode) ?_ fun q => ?_
    · refine beq_false_of_ne fun h => ?_
      rw [h] at hmode
      exact absurd hmode (by decide)
    · change runReset mode q = _
      unfold runReset
      split
      case h_1 hzero | h_2 hzero => omega
      case h_3 => rfl
  · refine exec_commandFrame_badArg hp haccepts (c := .planStop plan mode) rfl fun q => ?_
    change runPlanStop plan mode q = _
    unfold runPlanStop
    split
    case h_1 hzero | h_2 hzero => omega
    case h_3 => rfl

end Sys2Proof.Machine
end

section
/-!
SUPPORT. The results of the queries (section 10.4): their lengths, and their bytes block by block.
-/

namespace Sys2Proof.Machine

/-! ### Lengths of the fields -/

theorem length_wordBytes (w : BitVec 16) : (wordBytes w).length = 2 := rfl

theorem length_sourceBytes (x : SourceSet) : (sourceBytes x).length = 2 := rfl

theorem length_tickBytes (tick : Nat) : (tickBytes tick).length = 6 := by
  unfold tickBytes
  split <;> exact length_leBytes 6 _

/-- A field with a presence byte has one length, present or not (R176). -/
theorem length_present {α : Type} {width : Nat} {f : α → List Byte} (hf : ∀ a, (f a).length = width) (x : Option α) :
    (present width (x.map f)).length = width + 1 := by
  cases x with
  | none => rw [Option.map_none, present, List.length_cons, List.length_replicate]
  | some a => rw [Option.map_some, present, List.length_cons, hf]

/-- Entries of one length each. -/
theorem length_entries {α : Type} {width : Nat} {f : α → List Byte} (hf : ∀ a, (f a).length = width) (l : List α) :
    (l.flatMap f).length = width * l.length := by
  induction l with
  | nil => rfl
  | cons a l ih => rw [List.flatMap_cons, List.length_append, hf, ih, List.length_cons, Nat.mul_succ, Nat.add_comm]

/-! ### Lengths of the results -/

theorem length_runModeBytes (m : RunMode) : (runModeBytes m).length = 2 := by
  cases m <;> rfl

theorem length_planDefBytes (d : PlanDef) : (planDefBytes d).length = 16 := by
  simp only [planDefBytes, List.length_append, length_wordBytes, length_sourceBytes, length_leBytes, length_runModeBytes, List.length_cons,
    List.length_nil]

theorem length_shotsBytes (x : Shots) : (shotsBytes x).length = 2 := by
  cases x <;> rfl

theorem length_bufferBytes (x : Buffer) : (bufferBytes x).length = 5 := by
  cases x <;> rfl

theorem length_timerBytes (x : Option Nat) : (timerBytes x).length = 3 := by
  cases x <;> rfl

theorem length_channelResults (i : Fin 8) (c : Channel) : (channelResults i c).length = 15 + 7 * c.log.length := by
  have hcounted := length_present (width := 1) (f := fun n => [byteOf n]) (fun _ => rfl) c.counted
  have hlog := length_entries (width := 7) (f := fun e : LogEntry => tickBytes e.tick ++ [byteOf e.range])
    (fun e => by rw [List.length_append, length_tickBytes]; rfl) c.log
  simp only [channelResults, List.length_append, List.length_cons, List.length_nil, hcounted, hlog, length_tickBytes]
  omega

theorem length_planResults (p : Part) (i : Fin 8) : (planResults p i).length = 42 := by
  have hdefinition := length_present length_planDefBytes p.plans[i].definition
  have htick := length_present length_tickBytes p.plans[i].lastAccepted
  simp only [planResults, List.length_append, List.length_cons, List.length_nil, hdefinition, htick, length_shotsBytes, length_leBytes]

theorem length_laneResults (i : Fin 2) (ln : Lane) : (laneResults i ln).length = 49 + 2 * ln.queue.length := by
  have hqueue := length_entries (length_leBytes 2) ln.queue
  unfold laneResults
  cases ln.current <;> cases ln.awaiting <;>
    simp only [List.length_append, List.length_cons, List.length_nil, length_leBytes, length_bufferBytes, length_timerBytes, hqueue] <;> omega

theorem length_samplerStatus (p : Part) : (samplerStatus p).length = 24 := by
  have hnewest := length_present length_tickBytes p.smp.newest
  simp only [samplerStatus, List.length_append, List.length_cons, List.length_nil, hnewest, length_tickBytes, length_leBytes]

theorem length_rangeStatus (p : Part) : (rangeStatus p).length = 24 := by
  rw [rangeStatus, length_entries (width := 3) (fun _ => rfl), Vector.length_toList]

theorem length_lineStatus (p : Part) : (lineStatus p).length = 16 := by
  rw [lineStatus, length_entries (width := 4) (fun _ => rfl), Vector.length_toList]

theorem length_detectorStatus (p : Part) : (detectorStatus p).length = 56 := by
  rw [detectorStatus, length_entries (width := 7) (fun _ => rfl), Vector.length_toList]

theorem length_offerStatus (p : Part) : (offerStatus p).length = 13 := by
  have hoffer := length_present (width := 8) (f := fun o : Nat × SourceSet => tickBytes o.1 ++ sourceBytes o.2)
    (fun o => by rw [List.length_append, length_tickBytes]; rfl) p.trg.lastOffer
  rw [offerStatus, List.length_append, length_leBytes, hoffer]

theorem length_slotStatus (p : Part) (o : Option Window) : (slotStatus p o).length = 33 := by
  cases o with
  | none => exact List.length_replicate
  | some w =>
    simp only [slotStatus, List.length_append, List.length_cons, List.length_nil, length_tickBytes, length_leBytes]

theorem length_memoryStatus (p : Part) : (memoryStatus p).length = 13 := by
  simp only [memoryStatus, List.length_append, List.length_cons, List.length_nil, length_leBytes]

theorem length_laneStatus (ln : Lane) : (laneStatus ln).length = 7 := rfl

/-- The four intake tags, the places behind the last command 0 (R168). -/
theorem intakeTags_eq (l : Link) : intakeTags l = (l.intake.map (fun c : IntakeCommand => c.tag) ++ [0, 0, 0, 0]).take 4 := by
  have hzeros : ([0, 0, 0, 0] : List Byte) = List.replicate 4 0 := rfl
  have hplaces : Config.intakePlaces = 4 := rfl
  simp only [intakeTags, hplaces, hzeros, List.take_append, List.take_replicate, List.length_take]
  congr 2
  omega

theorem length_intakeTags (l : Link) : (intakeTags l).length = 4 := by
  rw [intakeTags_eq, List.length_take, List.length_append]
  exact Nat.min_eq_left (Nat.le_add_left 4 _)

theorem length_linkStatus (l : Link) : (linkStatus l).length = 25 := by
  simp only [linkStatus, List.length_append, List.length_cons, List.length_nil, length_intakeTags, length_leBytes]

theorem length_jobStatus (p : Part) : (jobStatus p).length = 1 + 9 * p.jobs.length := by
  have hjobs := length_entries (width := 9) (f := fun j : Job => [byteOf j.plan.val] ++ tickBytes j.tick ++ sourceBytes j.sources)
    (fun j => by simp only [List.length_append, length_tickBytes, length_sourceBytes, List.length_cons, List.length_nil]) p.jobs
  rw [jobStatus, List.length_cons, hjobs, Nat.add_comm]

theorem length_statusResults (p : Part) : (statusResults p).length = 326 + 9 * p.jobs.length := by
  have hslots := length_entries (length_slotStatus p) p.slots.toList
  have hlanes := length_entries length_laneStatus p.lanes.toList
  simp only [statusResults, List.length_append, length_samplerStatus, length_rangeStatus, length_lineStatus, length_detectorStatus,
    length_offerStatus, List.length_map, hslots, length_memoryStatus, hlanes, length_linkStatus, length_jobStatus, Vector.length_toList]
  omega

/-! ### The bytes -/

/-- A tick with its presence byte (R176). -/
theorem present_tick (t : Option Nat) : present 6 (t.map tickBytes) = match t with
    | some n => 1 :: tickBytes n
    | none => [0, 0, 0, 0, 0, 0, 0] := by
  cases t <;> rfl

/-- A part's capability record (section 10.4.1). -/
theorem inquireResults_eq (t : Transport) : inquireResults t =
    [1, 1, 8, 0x3F, 7, 3, 7, 0x00, 0x40, 0x00, 0x04, 0x00, 0x01, 32, 4, 8, 8, 2, 0x00, 0x04, 4] ++
      (match t with
        | .uart r => [0, BitVec.ofNat 8 r.val]
        | .spi => [1, 0xFF]) := by
  cases t <;> rfl

/-- A held definition, or 17 zero bytes (section 10.2). -/
theorem present_definition (x : Option PlanDef) : present 16 (x.map planDefBytes) = match x with
    | some d => 1 :: (wordBytes (d.channels.setWidth 16) ++ [byteOf d.decimation] ++ leBytes 2 d.pre ++ leBytes 2 d.post ++
        sourceBytes d.sources ++
        runModeBytes d.runMode ++ [if d.policy = .queue then 0 else 1] ++ leBytes 2 d.holdoff ++ [byteOf d.lane.val, boolByte d.retain])
    | none => List.replicate 17 0 := by
  cases x with
  | none => rfl
  | some d =>
    have hpolicy : policyByte d.policy = if d.policy = .queue then 0 else 1 := by cases d.policy <;> rfl
    rw [Option.map_some, present, planDefBytes, hpolicy]

/-- The bytes of RECORD_LIST, the flags by their bits (section 10.4.5). -/
theorem recordListResults_eq (p : Part) : recordListResults p = byteOf p.records.length :: p.records.flatMap (fun r =>
    leBytes 2 r.id ++ [r.state.toByte, byteOf r.plan.val, byteOf r.lane.val] ++ leBytes 4 r.words ++
      [byteOf (r.flags.shortPre.toNat + 2 * r.flags.truncated.toNat + 4 * r.flags.clipped.toNat + 8 * r.flags.rangeUnknown.toNat +
        16 * r.flags.replayed.toNat), byteOf r.deliveries]) := by
  unfold recordListResults recordEntry
  simp only [flagsByte_eq, byteOf]

/-- The offers' block of STATUS (section 10.4.7). -/
theorem present_offer (x : Option (Nat × SourceSet)) : present 8 (x.map (fun o => tickBytes o.1 ++ sourceBytes o.2)) = match x with
    | some o => 1 :: (tickBytes o.1 ++ sourceBytes o.2)
    | none => List.replicate 9 0 := by
  cases x <;> rfl

/-- A counted span with its presence byte. -/
theorem present_counted (x : Option Nat) : present 1 (x.map (fun n => [byteOf n])) = match x with
    | some n => [1, byteOf n]
    | none => [0, 0] := by
  cases x <;> rfl

/-- The link's block of STATUS, the transport's two bytes together (section 10.4.7). -/
theorem linkStatus_eq (l : Link) : linkStatus l =
    (match l.transport with
      | .uart r => [0, byteOf r.val]
      | .spi => [1, 0xFF]) ++
      [l.parser.state.toByte, byteOf l.intake.length] ++ (l.intake.map (fun c : IntakeCommand => c.tag) ++ [0, 0, 0, 0]).take 4 ++
      [byteOf (reservedInUse l), byteOf (unreservedInUse l), byteOf l.reports.length, byteOf l.lost, byteOf l.turn.val] ++
      leBytes 2 l.errors.length ++ leBytes 2 l.errors.crc ++ leBytes 2 l.errors.kind ++ leBytes 2 l.errors.gap ++
      leBytes 2 l.errors.cut ++ leBytes 2 l.errors.noRoom := by
  rw [linkStatus, intakeTags_eq]
  cases l.transport <;> rfl

/-! ### The queries -/

section Queries

variable {s : State} {p : Part} {tag : Byte}

/-- A command whose owner answers and changes nothing. -/
theorem onEvent_answered (hp : arbitrated s.part = p) (haccepts : Accepts tag p) {c : Command} {status : Status} {results : List Byte}
    (hrun : runCommand c (p.holding tag (encodeCommand c)) = (p.holding tag (encodeCommand c), .done status results)) :
    onEvent (hostCommand tag c) s = .next (s.withPart (Part.answered tag (commandCode c) status results p)) := by
  obtain ⟨-, hin, -⟩ := id haccepts
  refine onEvent_command hp haccepts c ?_
  rw [hrun]
  exact answerHead_holding hin status results

/-- CHANNEL_GET, PLAN_GET and LANE_GET by their index. -/
theorem runChannelGet_index {channel : Byte} {c : Fin 8} (h : c.val = channel.toNat) (q : Part) :
    runChannelGet channel q = answer (channelResults c q.channels[c]) q := by
  have hlt : channel.toNat < 8 := h ▸ c.isLt
  have harg : channelArg channel = some c := (channelArg_of_lt hlt).trans (congrArg some (Fin.ext h.symm))
  rw [runChannelGet, harg]

theorem runPlanGet_index {plan : Byte} {i : Fin 8} (h : i.val = plan.toNat) (q : Part) : runPlanGet plan q = answer (planResults q i) q := by
  have hlt : plan.toNat < 8 := h ▸ i.isLt
  have harg : planArg plan = some i := (planArg_of_lt hlt).trans (congrArg some (Fin.ext h.symm))
  rw [runPlanGet, harg]

theorem runLaneGet_index {lane : Byte} {l : Fin 2} (h : l.val = lane.toNat) (q : Part) : runLaneGet lane q = answer (laneResults l q.lanes[l]) q := by
  rw [runLaneGet, laneArg_of_lane h]

theorem runChannelGet_beyond {channel : Byte} (h : 8 ≤ channel.toNat) (q : Part) : runChannelGet channel q = refuse .badArg q := by
  rw [runChannelGet, channelArg_of_ge h.not_gt]

theorem runPlanGet_beyond {plan : Byte} (h : 8 ≤ plan.toNat) (q : Part) : runPlanGet plan q = refuse .badArg q := by
  rw [runPlanGet, planArg_of_ge h.not_gt]

theorem runLaneGet_beyond {lane : Byte} (h : 2 ≤ lane.toNat) (q : Part) : runLaneGet lane q = refuse .badArg q := by
  have harg : laneArg lane = none := dif_neg h.not_gt
  rw [runLaneGet, harg]

end Queries

/-- Settles O49: each query's step, its length, and the bytes of its results block by block. -/
theorem queriesAnswerWithoutEffect : Obligations.QueriesAnswerWithoutEffect := by
  refine ⟨fun s p tag index hp haccepts => ?_, fun p => ⟨fun i c => ?_, fun i => ?_, recordListResults_eq p, fun i ln => ?_, ?_⟩, ?_⟩
  · intro asExecuting
    refine ⟨?_, onEvent_answered hp haccepts (c := .status) rfl, length_statusResults asExecuting, onEvent_answered hp haccepts (c := .recordList) rfl,
      fun c hc => ⟨?_, length_channelResults c _, ?_, length_planResults p c⟩, fun hbeyond => ⟨?_, ?_⟩, fun l hl => ⟨?_, length_laneResults l _⟩,
      fun hbeyond => ?_⟩
    · exact onEvent_answered hp haccepts (c := .inquire) (congrArg (fun r => (_, Reply.done .ok r)) (inquireResults_eq p.lnk.transport))
    · exact onEvent_answered hp haccepts (c := .channelGet index) (runChannelGet_index hc _)
    · exact onEvent_answered hp haccepts (c := .planGet index) (runPlanGet_index hc _)
    · exact onEvent_answered hp haccepts (c := .channelGet index) (runChannelGet_beyond hbeyond _)
    · exact onEvent_answered hp haccepts (c := .planGet index) (runPlanGet_beyond hbeyond _)
    · exact onEvent_answered hp haccepts (c := .laneGet index) (runLaneGet_index hl _)
    · exact onEvent_answered hp haccepts (c := .laneGet index) (runLaneGet_beyond hbeyond _)
  · rw [channelResults, present_counted]
    rfl
  · rw [planResults, present_definition, present_tick]
    rfl
  · unfold laneResults
    simp only [List.append_assoc]
    rfl
  · rw [statusResults, samplerStatus, present_tick, offerStatus, present_offer, linkStatus_eq]
    iterate 10 refine congrArg₂ (· ++ ·) ?_ rfl
    rfl
  · decide

end Sys2Proof.Machine
end

section
/-!
SUPPORT. What comes about with no step waiting (assumption 4): the execution of the intake queue (R161), and a millisecond for the lanes' timers and the
gap timer (R111, R112, R107, R156).
-/

namespace Sys2Proof.Machine

/-! ### The execution of the intake queue (R161) -/

/-- A TRIGGER alone stays in execution to wait, and its mask is then in place (R50). -/
theorem runCommand_waits {c : Command} {p : Part} (h : (runCommand c p).2 = .waits) : (runCommand c p).1.trg.run ≠ none := by
  cases c with
  | trigger mask =>
    revert h
    simp only [runCommand, runTrigger]
    repeat' split
    · nofun
    · exact fun _ => nofun
    · nofun
  | _ =>
    revert h
    simp only [runCommand, runInquire, runStatus, runReset, runSamplingSet, runSamplingStart, runSamplingStop, runRangeSet, runRangeMode,
      runChannelGet, runExtlineSet, runDetectorSet, runPlanDefine, runPlanClear, runPlanStart, runPlanStop, runPlanGet, runRecordList,
      runRecordDiscard, runRecordRelease, runRecordReplay, runLaneSet, runLaneClearHalt, runLaneGet]
    repeat' split
    all_goals nofun

theorem runPayload_waits {payload : List Byte} {p : Part} (h : (runPayload payload p).2 = .waits) : (runPayload payload p).1.trg.run ≠ none := by
  revert h
  unfold runPayload
  split
  · nofun
  · nofun
  · exact runCommand_waits

/-- A command that has executed leaves the intake queue, or stays in execution (R161). -/
theorem applyReply_intake {p : Part} {c : IntakeCommand} {behind : List IntakeCommand} (hin : p.lnk.intake = c :: behind) :
    (applyReply (runPayload c.payload p)).lnk.intake = behind ∨ executing (applyReply (runPayload c.payload p)) = true := by
  have hwaits := runPayload_waits (payload := c.payload) (p := p)
  have hqueues := runPayload_queues c.payload p
  generalize runPayload c.payload p = x at hwaits hqueues
  obtain ⟨q, reply⟩ := x
  cases reply with
  | waits => exact .inr ((executing_iff q).2 (.inl (hwaits rfl)))
  | takesTime => exact .inr ((executing_iff _).2 (.inr (.inl rfl)))
  | done status results =>
    have hkept : QueuesKept p q := hqueues.resolve_right (by rintro ⟨r, h⟩; cases h)
    obtain ⟨hintake, -⟩ := (CommandSide.mk.injEq ..).mp hkept.commands
    rw [hin] at hintake
    have hanswered : (answerHead status results q).lnk.intake = behind := by
      unfold answerHead
      rw [hintake]
      rfl
    exact .inl hanswered
  | resets =>
    have hkept : QueuesKept p q := hqueues.resolve_right (by rintro ⟨r, h⟩; cases h)
    obtain ⟨hintake, -⟩ := (CommandSide.mk.injEq ..).mp hkept.commands
    rw [hin] at hintake
    have hresets : (answerReset q).lnk.resetting = true := by
      unfold answerReset
      rw [hintake]
      rfl
    exact .inr ((executing_iff _).2 (.inr (.inr hresets)))

/-- With none in execution, the command at the head executes, and then those behind it (R161). -/
theorem drain_cons {p : Part} {c : IntakeCommand} {behind : List IntakeCommand} (hin : p.lnk.intake = c :: behind) (hidle : executing p = false) :
    drain p = drain (applyReply (runPayload c.payload p)) := by
  have hhead : executeHead p = applyReply (runPayload c.payload p) := by
    unfold executeHead
    rw [hin]
    exact if_neg (by rw [hidle]; nofun)
  have hdrain : drain p = executeFor behind.length (applyReply (runPayload c.payload p)) := by
    rw [drain, hin, List.length_cons, executeFor, hhead]
  rw [hdrain]
  rcases applyReply_intake hin with h | h
  · rw [drain, h]
  · rw [executeFor_executing h, drain_executing h]

/-! ### A millisecond for a lane (R111, R112, R107) -/

/-- The ack timer of the lane expires in this millisecond, and its retry is one more than the limit (R107). -/
def laneHalts (ln : Lane) : Bool :=
  decide (ln.ackTimer.any (fun n => decide (n ≤ 1)) = true ∧ ln.config.retryLimit < ln.retries + 1)

/-- The report of a lane whose retries pass the limit (R109). -/
def retryHaltReport (l : Fin 2) (ln : Lane) : Report :=
  .laneHalted l .retryLimit ln.seq (awaitingName ln) (ln.retries + 1)

/-- The lane after a millisecond. -/
def millisecondLane (ln : Lane) : Lane :=
  match ln.ackTimer, ln.backoffTimer with
  | some n, _ =>
    if 1 < n then { ln with ackTimer := some (n - 1) } else if laneHalts ln then overRetriedLane ln else retriedLane ln
  | none, some n =>
    if 1 < n then { ln with backoffTimer := some (n - 1) } else { ln with state := .ready, backoffTimer := none }
  | none, none => ln

/-- What a lane posts in a millisecond. -/
def millisecondReports (l : Fin 2) (ln : Lane) : List Report :=
  if laneHalts ln then [retryHaltReport l ln] else []

section OneLane

variable {l : Fin 2} {ln : Lane} {p : Part} {n : Nat}

theorem laneHalts_running (h : ln.ackTimer = some n) : laneHalts ln = decide (n ≤ 1 ∧ ln.config.retryLimit < ln.retries + 1) := by
  simp only [laneHalts, h, Option.any_some, decide_eq_true_eq]

theorem laneHalts_stopped (h : ln.ackTimer = none) : laneHalts ln = false := by
  simp only [laneHalts, h, Option.any_none, Bool.false_eq_true, false_and, decide_false]

theorem millisecondLane_ack (h : ln.ackTimer = some n) : millisecondLane ln =
    if 1 < n then { ln with ackTimer := some (n - 1) } else if laneHalts ln then overRetriedLane ln else retriedLane ln := by
  unfold millisecondLane
  rw [h]

theorem millisecondLane_backoff (hack : ln.ackTimer = none) (h : ln.backoffTimer = some n) : millisecondLane ln =
    if 1 < n then { ln with backoffTimer := some (n - 1) } else { ln with state := .ready, backoffTimer := none } := by
  unfold millisecondLane
  rw [hack, h]

theorem millisecondLane_stopped (hack : ln.ackTimer = none) (h : ln.backoffTimer = none) : millisecondLane ln = ln := by
  unfold millisecondLane
  rw [hack, h]

theorem laneMillisecond_ack (h : p.lanes[l].ackTimer = some n) : laneMillisecond l p =
    if n ≤ 1 then ackExpiry l p else modifyLane l (fun ln => { ln with ackTimer := some (n - 1) }) p := by
  unfold laneMillisecond
  rw [h]

theorem laneMillisecond_backoff (hack : p.lanes[l].ackTimer = none) (h : p.lanes[l].backoffTimer = some n) : laneMillisecond l p =
    if n ≤ 1 then backoffExpiry l p else modifyLane l (fun ln => { ln with backoffTimer := some (n - 1) }) p := by
  unfold laneMillisecond
  rw [hack, h]

theorem laneMillisecond_stopped (hack : p.lanes[l].ackTimer = none) (h : p.lanes[l].backoffTimer = none) : laneMillisecond l p = p := by
  unfold laneMillisecond
  rw [hack, h]

/-- What a lane's millisecond leaves where it posts nothing. -/
theorem millisecondReports_quiet (h : laneHalts ln = false) (l : Fin 2) : millisecondReports l ln = [] :=
  if_neg (by rw [h]; nofun)

/-- The millisecond in which a running ack timer does or does not expire (R111, R107). -/
theorem laneMillisecond_ack_eq (htimed : p.lanes[l].Timed) (hack : p.lanes[l].ackTimer = some n) : laneMillisecond l p = { p with
    lanes := p.lanes.set l.val (millisecondLane p.lanes[l])
    lnk := (postReports (millisecondReports l p.lanes[l]) p).lnk } := by
  have hhalts := laneHalts_running hack
  rw [laneMillisecond_ack hack, millisecondLane_ack hack]
  by_cases hn : n ≤ 1
  · have hruns : p.lanes[l].ackTimer ≠ none := by rw [hack]; nofun
    have hawaiting := htimed.ack (Option.isSome_iff_ne_none.2 hruns)
    rw [if_pos hn, if_neg hn.not_gt, ackExpiry_runs hawaiting hruns, retryLane_eq]
    by_cases hlimit : p.lanes[l].config.retryLimit < p.lanes[l].retries + 1
    · have hover : laneHalts p.lanes[l] = true := hhalts.trans (decide_eq_true ⟨hn, hlimit⟩)
      have hpost : millisecondReports l p.lanes[l] = [retryHaltReport l p.lanes[l]] := if_pos hover
      have hlnk := postReport_lnk_congr (retryHaltReport l p.lanes[l]) (p := p) (q := modifyLane l overRetriedLane p) rfl
      rw [if_pos hlimit, if_pos hover, hpost]
      refine (postReport_frame (retryHaltReport l p.lanes[l]) _).trans ?_
      rw [hlnk]
      rfl
    · have hquiet : laneHalts p.lanes[l] = false := hhalts.trans (decide_eq_false fun h => hlimit h.2)
      rw [if_neg hlimit, if_neg (by rw [hquiet]; nofun), millisecondReports_quiet hquiet]
      rfl
  · have hquiet : laneHalts p.lanes[l] = false := hhalts.trans (decide_eq_false fun h => hn h.1)
    rw [if_neg hn, if_pos (Nat.lt_of_not_le hn), millisecondReports_quiet hquiet]
    rfl

/-- A millisecond on a lane whose timers run in their states alone (R111, R112). -/
theorem laneMillisecond_eq (htimed : p.lanes[l].Timed) : laneMillisecond l p = { p with
    lanes := p.lanes.set l.val (millisecondLane p.lanes[l])
    lnk := (postReports (millisecondReports l p.lanes[l]) p).lnk } := by
  cases hack : p.lanes[l].ackTimer with
  | some n => exact laneMillisecond_ack_eq htimed hack
  | none =>
    rw [millisecondReports_quiet (laneHalts_stopped hack)]
    cases hbackoff : p.lanes[l].backoffTimer with
    | some n =>
      rw [laneMillisecond_backoff hack hbackoff, millisecondLane_backoff hack hbackoff]
      by_cases hn : n ≤ 1
      · have hruns : p.lanes[l].backoffTimer ≠ none := by rw [hbackoff]; nofun
        have hstate := htimed.backoff (Option.isSome_iff_ne_none.2 hruns)
        rw [if_pos hn, if_neg hn.not_gt, backoffExpiry_runs hstate hruns]
        rfl
      · rw [if_neg hn, if_pos (Nat.lt_of_not_le hn)]
        rfl
    | none =>
      have hlanes : p.lanes.set l.val p.lanes[l] = p.lanes := Vector.set_getElem_self l.isLt
      rw [laneMillisecond_stopped hack hbackoff, millisecondLane_stopped hack hbackoff, hlanes]
      rfl

end OneLane

/-- A millisecond on both lanes: their reports are posted, that of L0 first. -/
theorem lanesMillisecond_eq {p : Part} (h : p.Timed) : laneMillisecond 1 (laneMillisecond 0 p) = { p with
    lanes := (p.lanes.set 0 (millisecondLane p.lanes[0])).set 1 (millisecondLane p.lanes[1])
    lnk := (postReports (millisecondReports 0 p.lanes[0] ++ millisecondReports 1 p.lanes[1]) p).lnk } := by
  have hfirst := laneMillisecond_eq (h 0)
  have hlane : (laneMillisecond 0 p).lanes[(1 : Fin 2)] = p.lanes[(1 : Fin 2)] := by
    rw [hfirst]
    exact Vector.getElem_set_ne (by decide) (by decide) (by decide)
  have hlnk : (laneMillisecond 0 p).lnk = (postReports (millisecondReports 0 p.lanes[(0 : Fin 2)]) p).lnk := by rw [hfirst]
  rw [laneMillisecond_eq (l := 1) (by rw [hlane]; exact h 1), hlane, postReports_lnk_congr _ hlnk, ← postReports_append, hfirst]
  rfl

/-! ### A millisecond for the gap timer (R156) -/

/-- The gap timer by the transport, the parser's state and the milliseconds that have passed (R156). -/
theorem gapMillisecond_eq (p : Part) : gapMillisecond p =
    if p.lnk.transport ≠ .spi ∧ p.lnk.parser.state ≠ .hunt ∧ 5 ≤ p.lnk.parser.gap then discardFrame .gap (p.lnk.parser.kept[3]?) p
    else if p.lnk.transport ≠ .spi ∧ p.lnk.parser.state ≠ .hunt then setParser { p.lnk.parser with gap := p.lnk.parser.gap + 1 } p
    else p := by
  have hlimit : Config.gapLimit < p.lnk.parser.gap + 1 ↔ 5 ≤ p.lnk.parser.gap := Nat.lt_add_one_iff
  unfold gapMillisecond
  rw [gapExpires_eq]
  cases htransport : p.lnk.transport with
  | spi => simp
  | uart rate =>
    by_cases hhunt : p.lnk.parser.state = .hunt
    · simp [hhunt]
    · simp [hhunt, hlimit]

/-- A post depends on the report queue and the lost count alone, and changes nothing else of the link (R164). -/
theorem postReport_queues {p q : Part} (hreports : q.lnk.reports = p.lnk.reports) (hlost : q.lnk.lost = p.lnk.lost) (r : Report) :
    postReport r q = { q with lnk := { q.lnk with reports := (postReport r p).lnk.reports, lost := (postReport r p).lnk.lost } } := by
  unfold postReport
  rw [hreports, hlost]
  split
  · rfl
  · rw [← hreports]

/-- The gap timer of a frame in the parser passes its limit in this millisecond (R156). -/
def gapCuts (x : Link) : Bool :=
  decide (x.transport ≠ .spi ∧ x.parser.state ≠ .hunt ∧ 5 ≤ x.parser.gap)

/-- What the gap timer posts in a millisecond. -/
def gapReports (x : Link) : List Report :=
  if gapCuts x then [.linkError .gap (x.parser.kept[3]?)] else []

/-- The parser after a millisecond. -/
def millisecondParser (x : Link) : Parser :=
  if gapCuts x then Parser.hunting
  else if x.transport ≠ .spi ∧ x.parser.state ≠ .hunt then { x.parser with gap := x.parser.gap + 1 }
  else x.parser

/-- The error counters after a millisecond. -/
def millisecondErrors (x : Link) : LinkErrors :=
  if gapCuts x then { x.errors with gap := min (x.errors.gap + 1) 65535 } else x.errors

/-- A millisecond for the gap timer in one equation (R156, R157, R164). -/
theorem gapMillisecond_link (p : Part) : gapMillisecond p = { p with lnk := { p.lnk with
    parser := millisecondParser p.lnk
    errors := millisecondErrors p.lnk
    reports := (postReports (gapReports p.lnk) p).lnk.reports
    lost := (postReports (gapReports p.lnk) p).lnk.lost } } := by
  rw [gapMillisecond_eq]
  unfold millisecondParser millisecondErrors gapReports
  by_cases hcut : p.lnk.transport ≠ .spi ∧ p.lnk.parser.state ≠ .hunt ∧ 5 ≤ p.lnk.parser.gap
  · have hcuts : gapCuts p.lnk = true := decide_eq_true hcut
    rw [if_pos hcut, hcuts, discardFrame_eq]
    refine (postReport_queues (p := p) ?_ ?_ _).trans ?_ <;> rfl
  · have hcuts : gapCuts p.lnk = false := decide_eq_false hcut
    rw [if_neg hcut, hcuts]
    split <;> rfl

/-- What the two lanes post, as the halts of the lanes in their order. -/
theorem millisecondReports_lanes (p : Part) : millisecondReports 0 p.lanes[(0 : Fin 2)] ++ millisecondReports 1 p.lanes[(1 : Fin 2)] =
    (([0, 1] : List (Fin 2)).filter (fun l => laneHalts p.lanes[l])).map (fun l => retryHaltReport l p.lanes[l]) := by
  simp only [millisecondReports, List.filter_cons, List.filter_nil]
  cases laneHalts p.lanes[(0 : Fin 2)] <;> cases laneHalts p.lanes[(1 : Fin 2)] <;> rfl

/-- A millisecond in one equation: each lane, and the link with what the lanes and then the gap timer post. -/
theorem millisecond_eq {p : Part} (h : p.Timed) {reports : List Report}
    (hreports : reports = (([0, 1] : List (Fin 2)).filter (fun l => laneHalts p.lanes[l])).map (fun l => retryHaltReport l p.lanes[l]) ++
      gapReports p.lnk) : millisecond p = { p with
    lanes := (p.lanes.set 0 (millisecondLane p.lanes[0])).set 1 (millisecondLane p.lanes[1])
    lnk := { p.lnk with
      parser := millisecondParser p.lnk
      errors := millisecondErrors p.lnk
      reports := (postReports reports p).lnk.reports
      lost := (postReports reports p).lnk.lost } } := by
  have hlanes := lanesMillisecond_eq h
  rw [← millisecondReports_lanes] at hreports
  generalize hposted : millisecondReports 0 p.lanes[(0 : Fin 2)] ++ millisecondReports 1 p.lanes[(1 : Fin 2)] = posted at hreports
  have hq : (laneMillisecond 1 (laneMillisecond 0 p)).lnk = (postReports posted p).lnk := by
    rw [hlanes, ← hposted]
    rfl
  have hlink := hq.trans (postReports_link posted p)
  have hgap : gapReports (laneMillisecond 1 (laneMillisecond 0 p)).lnk = gapReports p.lnk := by rw [hlink]; rfl
  have hparser : millisecondParser (laneMillisecond 1 (laneMillisecond 0 p)).lnk = millisecondParser p.lnk := by rw [hlink]; rfl
  have herrors : millisecondErrors (laneMillisecond 1 (laneMillisecond 0 p)).lnk = millisecondErrors p.lnk := by rw [hlink]; rfl
  rw [millisecond, gapMillisecond_link, hgap, hparser, herrors, postReports_lnk_congr _ hq, ← postReports_append, ← hreports, hlink, hlanes]

theorem millisecond_lane {p q : Part} (hq : q.lanes = (p.lanes.set 0 (millisecondLane p.lanes[0])).set 1 (millisecondLane p.lanes[1])) (l : Fin 2) :
    q.lanes[l] = millisecondLane p.lanes[l] := by
  rw [hq]
  match l with
  | 0 => exact (Vector.getElem_set_ne (by decide) (by decide) (by decide)).trans (Vector.getElem_set_self (by decide))
  | 1 => exact Vector.getElem_set_self (by decide)

/-- Settles O4: the end of an execution, then a millisecond, then the execution of the intake queue. -/
theorem idleStepEndsAnExecutionOrPassesAMillisecond : Obligations.IdleStepEndsAnExecutionOrPassesAMillisecond := by
  refine ⟨fun s p hp hidle => ?_, fun p hrests => hrests.elim drain_empty drain_executing, fun p c behind => drain_cons⟩
  have hstep : step s = .next (s.withPart (elapse p)) := by
    rw [step, hidle, ← hp]
    rfl
  refine ⟨fun c behind hfinishing hintake => ?_, fun hfinishing htimers => ?_⟩
  · have helapse : elapse p = finishExecution p := if_pos hfinishing
    rw [hstep, helapse, finishExecution_cons hintake]
  · have helapse : elapse p = millisecond p := if_neg (by rw [hfinishing]; nofun)
    intro halts cut reports
    have htime := millisecond_eq (p := p) ((laneTimersSound_iff p).1 htimers) (reports := reports) rfl
    refine ⟨millisecond p, by rw [hstep, helapse], fun l => ?_, ?_, ?_⟩
    · exact millisecond_lane (congrArg Part.lanes htime) l
    · exact congrArg Part.lnk htime
    · rw [htime]

end Sys2Proof.Machine
end
